-- ==== Sys2Proof/Word.lean ====
section
/-! DEFINITION. Word types, access sizes and the fixed sets of names the spec uses
(`00_scope.md` R13, `10_state.md` R21, R25, R30, R52). -/

namespace Sys2Proof

/-- A byte of a store. -/
abbrev Byte := BitVec 8

/-- A 16-bit timer register (R30). -/
abbrev Half := BitVec 16

/-- A 32-bit operand, register or read value (R91, R94). -/
abbrev Word := BitVec 32

/-- The size of a bus request (R13). -/
inductive Size
  | byte
  | half
  | word
  deriving DecidableEq, Repr

/-- The type of a bus request (R61). -/
inductive Dir
  | read
  | write
  deriving DecidableEq, Repr

/-- The three timers `T[0]`, `T[1]`, `T[2]` (R30). -/
inductive TimerId
  | t0
  | t1
  | t2
  deriving DecidableEq, Repr

/-- The nine MEMCTRL registers in index order (R25). -/
inductive McReg
  | exp1Base
  | exp2Base
  | exp1Delay
  | exp3Delay
  | biosDelay
  | spuDelay
  | cdromDelay
  | exp2Delay
  | commonDelay
  deriving DecidableEq, Repr

/-- The seven collaborators outside the block (R52). -/
inductive Collab
  | pad
  | intc
  | dma
  | cdrom
  | gpu
  | mdec
  | spu
  deriving DecidableEq, Repr

/-- The four ports of a timer's register group (R98). -/
inductive TimerPort
  | counter
  | mode
  | target
  | none
  deriving DecidableEq, Repr

/-- The regions of the address map (R63); `INVALID` is the absence of a region. -/
inductive Region
  | ram
  | exp1
  | scratchpad
  | memctrl
  | pad
  | sio
  | memctrl2
  | intc
  | dma
  | timers
  | cdrom
  | gpu
  | mdec
  | spu
  | exp2
  | bios
  deriving DecidableEq, Repr

end Sys2Proof
end

