-- ==== Sys2Proof/Syntax.lean ====
section
/-! DEFINITION. The operations of the block, one constructor for each row of `spec/opcode_table.json`
(`30_encoding.md` R92, R100, R101, R110). PACKET rows carry the operands the operation uses;
ADDR_REGION and ADDR_PORT rows carry the address bits the row leaves free and the rest of the bus
request. -/

namespace Sys2Proof

/-- A bus request without its address (R61, R91): type, size, the `b` operand and the `pend` operand. -/
structure Access where
  dir : Dir
  size : Size
  value : Word
  pend : Word
  deriving DecidableEq, Repr

/-- The operations. In the address rows `seg` holds address bits 31:29, which no rule reads (R62). -/
inductive Instr
  /-- RB (R153). -/
  | rb (a pend : Word)
  /-- RH (R154). -/
  | rh (a pend : Word)
  /-- RW (R156). -/
  | rw (a pend : Word)
  /-- RESERVED_3 (R106). -/
  | reserved3
  /-- WB (R157). -/
  | wb (a b pend : Word)
  /-- WH (R158). -/
  | wh (a b pend : Word)
  /-- WW (R159). -/
  | ww (a b pend : Word)
  /-- RESERVED_7 (R106). -/
  | reserved7
  /-- RESET (R270). -/
  | reset
  /-- EXEC (R240). -/
  | exec (ticks : Word)
  /-- GATE (R230). -/
  | gate (timer level : Word)
  /-- XCLK (R243). -/
  | xclk (timer pulses : Word)
  /-- PATCH (R274). -/
  | patch (addr value mask : Word)
  /-- EXPROM (R277). -/
  | exprom (length : Word)
  /-- SAVE (R280). -/
  | save
  /-- LOAD (R281). -/
  | load
  /-- REGION_RAM (R130, R131). -/
  | regionRam (seg : BitVec 3) (mir : BitVec 2) (off : BitVec 21) (x : Access)
  /-- REGION_EXP1 (R140 to R144). -/
  | regionExp1 (seg : BitVec 3) (low : BitVec 23) (x : Access)
  /-- REGION_SCRATCHPAD (R133, R134). -/
  | regionScratchpad (seg : BitVec 3) (low : BitVec 10) (x : Access)
  /-- REGION_MEMCTRL_a (R160, R161). -/
  | regionMemctrlA (seg : BitVec 3) (low : BitVec 5) (x : Access)
  /-- REGION_MEMCTRL_b (R160, R161). -/
  | regionMemctrlB (seg : BitVec 3) (low : BitVec 2) (x : Access)
  /-- REGION_PAD (R195). -/
  | regionPad (seg : BitVec 3) (low : BitVec 4) (x : Access)
  /-- REGION_SIO (R196, R197). -/
  | regionSio (seg : BitVec 3) (low : BitVec 4) (x : Access)
  /-- REGION_MEMCTRL2 (R165, R166). -/
  | regionMemctrl2 (seg : BitVec 3) (low : BitVec 2) (x : Access)
  /-- REGION_INTC (R198). -/
  | regionIntc (seg : BitVec 3) (low : BitVec 3) (x : Access)
  /-- REGION_DMA (R199). -/
  | regionDma (seg : BitVec 3) (low : BitVec 7) (x : Access)
  /-- REGION_TIMERS_a (R220). -/
  | regionTimersA (seg : BitVec 3) (low : BitVec 5) (x : Access)
  /-- REGION_TIMERS_b (R220). -/
  | regionTimersB (seg : BitVec 3) (low : BitVec 4) (x : Access)
  /-- REGION_CDROM (R202, R203). -/
  | regionCdrom (seg : BitVec 3) (low : BitVec 2) (x : Access)
  /-- REGION_GPU (R204). -/
  | regionGpu (seg : BitVec 3) (low : BitVec 3) (x : Access)
  /-- REGION_MDEC (R205). -/
  | regionMdec (seg : BitVec 3) (low : BitVec 3) (x : Access)
  /-- REGION_SPU_a (R207). -/
  | regionSpuA (seg : BitVec 3) (low : BitVec 9) (x : Access)
  /-- REGION_SPU_b (R207). -/
  | regionSpuB (seg : BitVec 3) (low : BitVec 7) (x : Access)
  /-- REGION_EXP2 (R146 to R152). -/
  | regionExp2 (seg : BitVec 3) (low : BitVec 13) (x : Access)
  /-- REGION_BIOS (R136, R137). -/
  | regionBios (seg : BitVec 3) (low : BitVec 19) (x : Access)
  /-- PORT_MEMCTRL_0_exp1_base (R160, R161). -/
  | portMemctrl0 (seg : BitVec 3) (lane : BitVec 2) (x : Access)
  /-- PORT_MEMCTRL_1_exp2_base (R160, R161). -/
  | portMemctrl1 (seg : BitVec 3) (lane : BitVec 2) (x : Access)
  /-- PORT_MEMCTRL_2_exp1_delay_size (R160, R161). -/
  | portMemctrl2 (seg : BitVec 3) (lane : BitVec 2) (x : Access)
  /-- PORT_MEMCTRL_3_exp3_delay_size (R160, R161). -/
  | portMemctrl3 (seg : BitVec 3) (lane : BitVec 2) (x : Access)
  /-- PORT_MEMCTRL_4_bios_delay_size (R160, R161). -/
  | portMemctrl4 (seg : BitVec 3) (lane : BitVec 2) (x : Access)
  /-- PORT_MEMCTRL_5_spu_delay_size (R160, R161). -/
  | portMemctrl5 (seg : BitVec 3) (lane : BitVec 2) (x : Access)
  /-- PORT_MEMCTRL_6_cdrom_delay_size (R160, R161). -/
  | portMemctrl6 (seg : BitVec 3) (lane : BitVec 2) (x : Access)
  /-- PORT_MEMCTRL_7_exp2_delay_size (R160, R161). -/
  | portMemctrl7 (seg : BitVec 3) (lane : BitVec 2) (x : Access)
  /-- PORT_MEMCTRL_8_common_delay (R160, R161). -/
  | portMemctrl8 (seg : BitVec 3) (lane : BitVec 2) (x : Access)
  /-- PORT_RAM_SIZE_REG (R165, R166). -/
  | portRamSizeReg (seg : BitVec 3) (lane : BitVec 2) (x : Access)
  /-- PORT_SIO_STAT (R196, R197). -/
  | portSioStat (seg : BitVec 3) (x : Access)
  /-- PORT_T0_COUNTER (R222, R223). -/
  | portT0Counter (seg : BitVec 3) (lane : BitVec 2) (x : Access)
  /-- PORT_T0_MODE (R224, R225). -/
  | portT0Mode (seg : BitVec 3) (lane : BitVec 2) (x : Access)
  /-- PORT_T0_TARGET (R226, R227). -/
  | portT0Target (seg : BitVec 3) (lane : BitVec 2) (x : Access)
  /-- PORT_T0_NONE (R228). -/
  | portT0None (seg : BitVec 3) (lane : BitVec 2) (x : Access)
  /-- PORT_T1_COUNTER (R222, R223). -/
  | portT1Counter (seg : BitVec 3) (lane : BitVec 2) (x : Access)
  /-- PORT_T1_MODE (R224, R225). -/
  | portT1Mode (seg : BitVec 3) (lane : BitVec 2) (x : Access)
  /-- PORT_T1_TARGET (R226, R227). -/
  | portT1Target (seg : BitVec 3) (lane : BitVec 2) (x : Access)
  /-- PORT_T1_NONE (R228). -/
  | portT1None (seg : BitVec 3) (lane : BitVec 2) (x : Access)
  /-- PORT_T2_COUNTER (R222, R223). -/
  | portT2Counter (seg : BitVec 3) (lane : BitVec 2) (x : Access)
  /-- PORT_T2_MODE (R224, R225). -/
  | portT2Mode (seg : BitVec 3) (lane : BitVec 2) (x : Access)
  /-- PORT_T2_TARGET (R226, R227). -/
  | portT2Target (seg : BitVec 3) (lane : BitVec 2) (x : Access)
  /-- PORT_T2_NONE (R228). -/
  | portT2None (seg : BitVec 3) (lane : BitVec 2) (x : Access)
  /-- PORT_EXP1_AR (R141). -/
  | portExp1Ar (seg : BitVec 3) (x : Access)
  /-- PORT_EXP2_TTY_STATUS (R147). -/
  | portExp2TtyStatus (seg : BitVec 3) (x : Access)
  /-- PORT_EXP2_TTY_DATA (R148, R150). -/
  | portExp2TtyData (seg : BitVec 3) (x : Access)
  /-- PORT_EXP2_POST (R148, R151). -/
  | portExp2Post (seg : BitVec 3) (x : Access)
  deriving DecidableEq, Repr

end Sys2Proof
end

