-- ==== Sys2Proof/WellFormed.lean ====
section
/-! DEFINITION. Which operations carry no reserved value (`30_encoding.md` R106). An operation that does
carry one is still decoded, and answered `Refused(ReservedOp)`. -/

namespace Sys2Proof

/-- `pend[31]` must be 0 (R93, R106). -/
def pendOk (pend : Word) : Bool :=
  !pend.getLsbD 31

/-- R106: the operands are outside the reserved values of the operation. -/
def Instr.wellFormed : Instr → Bool
  | .rb _ pend => pendOk pend
  | .rh _ pend => pendOk pend
  | .rw _ pend => pendOk pend
  | .reserved3 => false
  | .wb _ _ pend => pendOk pend
  | .wh _ _ pend => pendOk pend
  | .ww _ _ pend => pendOk pend
  | .reserved7 => false
  | .reset => true
  | .exec ticks => !ticks.getLsbD 31
  | .gate timer _ => timer.toNat ≤ 2
  | .xclk timer pulses => timer.toNat ≤ 1 && !pulses.getLsbD 31
  | .patch _ _ _ => true
  | .exprom length => length.toNat ≤ 0x800000
  | .save => true
  | .load => true
  | .regionRam _ _ _ x => pendOk x.pend
  | .regionExp1 _ _ x => pendOk x.pend
  | .regionScratchpad _ _ x => pendOk x.pend
  | .regionMemctrlA _ _ x => pendOk x.pend
  | .regionMemctrlB _ _ x => pendOk x.pend
  | .regionPad _ _ x => pendOk x.pend
  | .regionSio _ _ x => pendOk x.pend
  | .regionMemctrl2 _ _ x => pendOk x.pend
  | .regionIntc _ _ x => pendOk x.pend
  | .regionDma _ _ x => pendOk x.pend
  | .regionTimersA _ _ x => pendOk x.pend
  | .regionTimersB _ _ x => pendOk x.pend
  | .regionCdrom _ _ x => pendOk x.pend
  | .regionGpu _ _ x => pendOk x.pend
  | .regionMdec _ _ x => pendOk x.pend
  | .regionSpuA _ _ x => pendOk x.pend
  | .regionSpuB _ _ x => pendOk x.pend
  | .regionExp2 _ _ x => pendOk x.pend
  | .regionBios _ _ x => pendOk x.pend
  | .portMemctrl0 _ _ x => pendOk x.pend
  | .portMemctrl1 _ _ x => pendOk x.pend
  | .portMemctrl2 _ _ x => pendOk x.pend
  | .portMemctrl3 _ _ x => pendOk x.pend
  | .portMemctrl4 _ _ x => pendOk x.pend
  | .portMemctrl5 _ _ x => pendOk x.pend
  | .portMemctrl6 _ _ x => pendOk x.pend
  | .portMemctrl7 _ _ x => pendOk x.pend
  | .portMemctrl8 _ _ x => pendOk x.pend
  | .portRamSizeReg _ _ x => pendOk x.pend
  | .portSioStat _ x => pendOk x.pend
  | .portT0Counter _ _ x => pendOk x.pend
  | .portT0Mode _ _ x => pendOk x.pend
  | .portT0Target _ _ x => pendOk x.pend
  | .portT0None _ _ x => pendOk x.pend
  | .portT1Counter _ _ x => pendOk x.pend
  | .portT1Mode _ _ x => pendOk x.pend
  | .portT1Target _ _ x => pendOk x.pend
  | .portT1None _ _ x => pendOk x.pend
  | .portT2Counter _ _ x => pendOk x.pend
  | .portT2Mode _ _ x => pendOk x.pend
  | .portT2Target _ _ x => pendOk x.pend
  | .portT2None _ _ x => pendOk x.pend
  | .portExp1Ar _ x => pendOk x.pend
  | .portExp2TtyStatus _ x => pendOk x.pend
  | .portExp2TtyData _ x => pendOk x.pend
  | .portExp2Post _ x => pendOk x.pend

end Sys2Proof
end

