-- ==== Sys2Proof/Decode.lean ====
section
/-! DEFINITION. Decoding and encoding (`30_encoding.md` R91 to R102, R110). The carrier of an operation
is 100 bits read in one of the table's three formats (notes/assumptions 2):

* `packet`: `op[99:96] a[95:64] b[63:32] c[31:0]` (R91);
* `region`, `port`: a bus request read by its address operand, `a[31:0] b[63:32] c[95:64] op[99:96]`,
  against the rows of R100 or of R101. -/

namespace Sys2Proof

/-- The formats of the opcode table (R110). -/
inductive Form
  | packet
  | region
  | port
  deriving DecidableEq, Repr

/-- One operation as presented to the block. -/
structure Carrier where
  form : Form
  bits : BitVec 100
  deriving DecidableEq, Repr

/-- Why the rows of the table hold no operation for a carrier. A packet always holds one; a carrier in an
address form that no row matches still stands for a bus request (`operationOf`). -/
inductive DecodeError
  /-- The operation code of an address form is not one of the six bus requests (R92). -/
  | notABusRequest
  /-- The address matches no row of R100. -/
  | noRegionRow
  /-- The address matches no row of R101. -/
  | noPortRow
  deriving DecidableEq, Repr

/-- R92: a bus request's operation code is `0, type, size`. -/
def busOp : Dir → Size → BitVec 4
  | .read, .byte => 0
  | .read, .half => 1
  | .read, .word => 2
  | .write, .byte => 4
  | .write, .half => 5
  | .write, .word => 6

/-- R92: type and size of a bus request's operation code. -/
def busRequest (op : BitVec 4) : Option (Dir × Size) :=
  match op.toNat with
  | 0 => some (.read, .byte)
  | 1 => some (.read, .half)
  | 2 => some (.read, .word)
  | 4 => some (.write, .byte)
  | 5 => some (.write, .half)
  | 6 => some (.write, .word)
  | _ => none

/-- Address bits 31:29, which the segment fold discards (R62). -/
def segOf (a : Word) : BitVec 3 :=
  a.extractLsb' 29 3

/-- R100, R101: address bits 28 to `lo` are those of the row's `match`, that is `a & mask = match` for
the row whose mask is bits 28 to `lo`. -/
def inRow (a : Word) (lo rowMatch : Nat) : Bool :=
  a.toNat % 0x20000000 / 2 ^ lo == rowMatch / 2 ^ lo

/-- The region row of R100 that matches the address. -/
def decodeRegion (a : Word) (x : Access) : Except DecodeError Instr :=
  if inRow a 23 0x00000000 then .ok (.regionRam (segOf a) (a.extractLsb' 21 2) (a.setWidth 21) x)
  else if inRow a 23 0x1F000000 then .ok (.regionExp1 (segOf a) (a.setWidth 23) x)
  else if inRow a 10 0x1F800000 then .ok (.regionScratchpad (segOf a) (a.setWidth 10) x)
  else if inRow a 5 0x1F801000 then .ok (.regionMemctrlA (segOf a) (a.setWidth 5) x)
  else if inRow a 2 0x1F801020 then .ok (.regionMemctrlB (segOf a) (a.setWidth 2) x)
  else if inRow a 4 0x1F801040 then .ok (.regionPad (segOf a) (a.setWidth 4) x)
  else if inRow a 4 0x1F801050 then .ok (.regionSio (segOf a) (a.setWidth 4) x)
  else if inRow a 2 0x1F801060 then .ok (.regionMemctrl2 (segOf a) (a.setWidth 2) x)
  else if inRow a 3 0x1F801070 then .ok (.regionIntc (segOf a) (a.setWidth 3) x)
  else if inRow a 7 0x1F801080 then .ok (.regionDma (segOf a) (a.setWidth 7) x)
  else if inRow a 5 0x1F801100 then .ok (.regionTimersA (segOf a) (a.setWidth 5) x)
  else if inRow a 4 0x1F801120 then .ok (.regionTimersB (segOf a) (a.setWidth 4) x)
  else if inRow a 2 0x1F801800 then .ok (.regionCdrom (segOf a) (a.setWidth 2) x)
  else if inRow a 3 0x1F801810 then .ok (.regionGpu (segOf a) (a.setWidth 3) x)
  else if inRow a 3 0x1F801820 then .ok (.regionMdec (segOf a) (a.setWidth 3) x)
  else if inRow a 9 0x1F801C00 then .ok (.regionSpuA (segOf a) (a.setWidth 9) x)
  else if inRow a 7 0x1F801E00 then .ok (.regionSpuB (segOf a) (a.setWidth 7) x)
  else if inRow a 13 0x1F802000 then .ok (.regionExp2 (segOf a) (a.setWidth 13) x)
  else if inRow a 19 0x1FC00000 then .ok (.regionBios (segOf a) (a.setWidth 19) x)
  else .error .noRegionRow

/-- The port row of R101 that matches the address. -/
def decodePort (a : Word) (x : Access) : Except DecodeError Instr :=
  if inRow a 2 0x1F801000 then .ok (.portMemctrl0 (segOf a) (a.setWidth 2) x)
  else if inRow a 2 0x1F801004 then .ok (.portMemctrl1 (segOf a) (a.setWidth 2) x)
  else if inRow a 2 0x1F801008 then .ok (.portMemctrl2 (segOf a) (a.setWidth 2) x)
  else if inRow a 2 0x1F80100C then .ok (.portMemctrl3 (segOf a) (a.setWidth 2) x)
  else if inRow a 2 0x1F801010 then .ok (.portMemctrl4 (segOf a) (a.setWidth 2) x)
  else if inRow a 2 0x1F801014 then .ok (.portMemctrl5 (segOf a) (a.setWidth 2) x)
  else if inRow a 2 0x1F801018 then .ok (.portMemctrl6 (segOf a) (a.setWidth 2) x)
  else if inRow a 2 0x1F80101C then .ok (.portMemctrl7 (segOf a) (a.setWidth 2) x)
  else if inRow a 2 0x1F801020 then .ok (.portMemctrl8 (segOf a) (a.setWidth 2) x)
  else if inRow a 2 0x1F801060 then .ok (.portRamSizeReg (segOf a) (a.setWidth 2) x)
  else if inRow a 0 0x1F801054 then .ok (.portSioStat (segOf a) x)
  else if inRow a 2 0x1F801100 then .ok (.portT0Counter (segOf a) (a.setWidth 2) x)
  else if inRow a 2 0x1F801104 then .ok (.portT0Mode (segOf a) (a.setWidth 2) x)
  else if inRow a 2 0x1F801108 then .ok (.portT0Target (segOf a) (a.setWidth 2) x)
  else if inRow a 2 0x1F80110C then .ok (.portT0None (segOf a) (a.setWidth 2) x)
  else if inRow a 2 0x1F801110 then .ok (.portT1Counter (segOf a) (a.setWidth 2) x)
  else if inRow a 2 0x1F801114 then .ok (.portT1Mode (segOf a) (a.setWidth 2) x)
  else if inRow a 2 0x1F801118 then .ok (.portT1Target (segOf a) (a.setWidth 2) x)
  else if inRow a 2 0x1F80111C then .ok (.portT1None (segOf a) (a.setWidth 2) x)
  else if inRow a 2 0x1F801120 then .ok (.portT2Counter (segOf a) (a.setWidth 2) x)
  else if inRow a 2 0x1F801124 then .ok (.portT2Mode (segOf a) (a.setWidth 2) x)
  else if inRow a 2 0x1F801128 then .ok (.portT2Target (segOf a) (a.setWidth 2) x)
  else if inRow a 2 0x1F80112C then .ok (.portT2None (segOf a) (a.setWidth 2) x)
  else if inRow a 0 0x1F020018 then .ok (.portExp1Ar (segOf a) x)
  else if inRow a 0 0x1F802021 then .ok (.portExp2TtyStatus (segOf a) x)
  else if inRow a 0 0x1F802023 then .ok (.portExp2TtyData (segOf a) x)
  else if inRow a 0 0x1F802041 then .ok (.portExp2Post (segOf a) x)
  else .error .noPortRow

/-- R92: the operation of a packet. Operands an operation does not use are ignored (R91). -/
def decodePacket (op : BitVec 4) (a b c : Word) : Instr :=
  match op.toNat with
  | 0 => .rb a c
  | 1 => .rh a c
  | 2 => .rw a c
  | 3 => .reserved3
  | 4 => .wb a b c
  | 5 => .wh a b c
  | 6 => .ww a b c
  | 7 => .reserved7
  | 8 => .reset
  | 9 => .exec a
  | 10 => .gate a b
  | 11 => .xclk a b
  | 12 => .patch a b c
  | 13 => .exprom a
  | 14 => .save
  | _ => .load

/-- The operation a carrier holds (R102). -/
def decode (k : Carrier) : Except DecodeError Instr :=
  match k.form with
  | .packet =>
    .ok (decodePacket (k.bits.extractLsb' 96 4) (k.bits.extractLsb' 64 32) (k.bits.extractLsb' 32 32)
      (k.bits.extractLsb' 0 32))
  | .region =>
    match busRequest (k.bits.extractLsb' 96 4) with
    | none => .error .notABusRequest
    | some (dir, size) =>
      decodeRegion (k.bits.extractLsb' 0 32)
        ⟨dir, size, k.bits.extractLsb' 32 32, k.bits.extractLsb' 64 32⟩
  | .port =>
    match busRequest (k.bits.extractLsb' 96 4) with
    | none => .error .notABusRequest
    | some (dir, size) =>
      decodePort (k.bits.extractLsb' 0 32)
        ⟨dir, size, k.bits.extractLsb' 32 32, k.bits.extractLsb' 64 32⟩

/-- The packet of an address form's own operands: type, size, address, value and `pend` of the same
request, or a sideband operation where `op[3]` says so (R92, R102). -/
def rowlessPacket (k : Carrier) : Instr :=
  decodePacket (k.bits.extractLsb' 96 4) (k.bits.extractLsb' 0 32) (k.bits.extractLsb' 32 32)
    (k.bits.extractLsb' 64 32)

/-- The operation a carrier stands for: its row's, or the packet of its operands where no row matches. An
address in no region row is `INVALID`, which is a response and not a stop (R102, R103). -/
def operationOf (k : Carrier) : Instr :=
  match decode k with
  | .ok i => i
  | .error _ => rowlessPacket k

/-- R91: the packet `op a b c`. -/
def packetForm (op : BitVec 4) (a b c : Word) : Carrier :=
  ⟨.packet, op ++ a ++ b ++ c⟩

/-- A bus request laid out by its address operand. -/
def addressForm (form : Form) (a : Word) (x : Access) : Carrier :=
  ⟨form, busOp x.dir x.size ++ x.pend ++ x.value ++ a⟩

/-- The address with segment bits `seg` of a row whose free low bits are `low`. -/
def rowAddress (seg : BitVec 3) (rowMatch low : Nat) : Word :=
  BitVec.ofNat 32 (seg.toNat * 0x20000000 + rowMatch + low)

/-- The carrier of an operation; operands an operation does not use are sent as zero (R91). -/
def encode : Instr → Carrier
  | .rb a pend => packetForm 0 a 0 pend
  | .rh a pend => packetForm 1 a 0 pend
  | .rw a pend => packetForm 2 a 0 pend
  | .reserved3 => packetForm 3 0 0 0
  | .wb a b pend => packetForm 4 a b pend
  | .wh a b pend => packetForm 5 a b pend
  | .ww a b pend => packetForm 6 a b pend
  | .reserved7 => packetForm 7 0 0 0
  | .reset => packetForm 8 0 0 0
  | .exec ticks => packetForm 9 ticks 0 0
  | .gate timer level => packetForm 10 timer level 0
  | .xclk timer pulses => packetForm 11 timer pulses 0
  | .patch addr value mask => packetForm 12 addr value mask
  | .exprom length => packetForm 13 length 0 0
  | .save => packetForm 14 0 0 0
  | .load => packetForm 15 0 0 0
  | .regionRam seg mir off x => addressForm .region (rowAddress seg 0x00000000 (mir.toNat * 0x200000 + off.toNat)) x
  | .regionExp1 seg low x => addressForm .region (rowAddress seg 0x1F000000 low.toNat) x
  | .regionScratchpad seg low x => addressForm .region (rowAddress seg 0x1F800000 low.toNat) x
  | .regionMemctrlA seg low x => addressForm .region (rowAddress seg 0x1F801000 low.toNat) x
  | .regionMemctrlB seg low x => addressForm .region (rowAddress seg 0x1F801020 low.toNat) x
  | .regionPad seg low x => addressForm .region (rowAddress seg 0x1F801040 low.toNat) x
  | .regionSio seg low x => addressForm .region (rowAddress seg 0x1F801050 low.toNat) x
  | .regionMemctrl2 seg low x => addressForm .region (rowAddress seg 0x1F801060 low.toNat) x
  | .regionIntc seg low x => addressForm .region (rowAddress seg 0x1F801070 low.toNat) x
  | .regionDma seg low x => addressForm .region (rowAddress seg 0x1F801080 low.toNat) x
  | .regionTimersA seg low x => addressForm .region (rowAddress seg 0x1F801100 low.toNat) x
  | .regionTimersB seg low x => addressForm .region (rowAddress seg 0x1F801120 low.toNat) x
  | .regionCdrom seg low x => addressForm .region (rowAddress seg 0x1F801800 low.toNat) x
  | .regionGpu seg low x => addressForm .region (rowAddress seg 0x1F801810 low.toNat) x
  | .regionMdec seg low x => addressForm .region (rowAddress seg 0x1F801820 low.toNat) x
  | .regionSpuA seg low x => addressForm .region (rowAddress seg 0x1F801C00 low.toNat) x
  | .regionSpuB seg low x => addressForm .region (rowAddress seg 0x1F801E00 low.toNat) x
  | .regionExp2 seg low x => addressForm .region (rowAddress seg 0x1F802000 low.toNat) x
  | .regionBios seg low x => addressForm .region (rowAddress seg 0x1FC00000 low.toNat) x
  | .portMemctrl0 seg lane x => addressForm .port (rowAddress seg 0x1F801000 lane.toNat) x
  | .portMemctrl1 seg lane x => addressForm .port (rowAddress seg 0x1F801004 lane.toNat) x
  | .portMemctrl2 seg lane x => addressForm .port (rowAddress seg 0x1F801008 lane.toNat) x
  | .portMemctrl3 seg lane x => addressForm .port (rowAddress seg 0x1F80100C lane.toNat) x
  | .portMemctrl4 seg lane x => addressForm .port (rowAddress seg 0x1F801010 lane.toNat) x
  | .portMemctrl5 seg lane x => addressForm .port (rowAddress seg 0x1F801014 lane.toNat) x
  | .portMemctrl6 seg lane x => addressForm .port (rowAddress seg 0x1F801018 lane.toNat) x
  | .portMemctrl7 seg lane x => addressForm .port (rowAddress seg 0x1F80101C lane.toNat) x
  | .portMemctrl8 seg lane x => addressForm .port (rowAddress seg 0x1F801020 lane.toNat) x
  | .portRamSizeReg seg lane x => addressForm .port (rowAddress seg 0x1F801060 lane.toNat) x
  | .portSioStat seg x => addressForm .port (rowAddress seg 0x1F801054 0) x
  | .portT0Counter seg lane x => addressForm .port (rowAddress seg 0x1F801100 lane.toNat) x
  | .portT0Mode seg lane x => addressForm .port (rowAddress seg 0x1F801104 lane.toNat) x
  | .portT0Target seg lane x => addressForm .port (rowAddress seg 0x1F801108 lane.toNat) x
  | .portT0None seg lane x => addressForm .port (rowAddress seg 0x1F80110C lane.toNat) x
  | .portT1Counter seg lane x => addressForm .port (rowAddress seg 0x1F801110 lane.toNat) x
  | .portT1Mode seg lane x => addressForm .port (rowAddress seg 0x1F801114 lane.toNat) x
  | .portT1Target seg lane x => addressForm .port (rowAddress seg 0x1F801118 lane.toNat) x
  | .portT1None seg lane x => addressForm .port (rowAddress seg 0x1F80111C lane.toNat) x
  | .portT2Counter seg lane x => addressForm .port (rowAddress seg 0x1F801120 lane.toNat) x
  | .portT2Mode seg lane x => addressForm .port (rowAddress seg 0x1F801124 lane.toNat) x
  | .portT2Target seg lane x => addressForm .port (rowAddress seg 0x1F801128 lane.toNat) x
  | .portT2None seg lane x => addressForm .port (rowAddress seg 0x1F80112C lane.toNat) x
  | .portExp1Ar seg x => addressForm .port (rowAddress seg 0x1F020018 0) x
  | .portExp2TtyStatus seg x => addressForm .port (rowAddress seg 0x1F802021 0) x
  | .portExp2TtyData seg x => addressForm .port (rowAddress seg 0x1F802023 0) x
  | .portExp2Post seg x => addressForm .port (rowAddress seg 0x1F802041 0) x

/-- The form an address word of the table is read in: a port row names a register inside its region's
row, so the port row is tried first (R102; notes/assumptions 2). -/
def addressWordForm (a : Word) : Form :=
  match decodePort a ⟨.read, .byte, 0, 0⟩ with
  | .ok _ => .port
  | .error _ => .region

/-- The carrier of an instruction of `spec/opcode_table.json` whose bits are `w`: up to 32 bits, an
address word whose other operands are zero; above, a packet. -/
def tableCarrier (nbits w : Nat) : Carrier :=
  if nbits ≤ 32 then ⟨addressWordForm (BitVec.ofNat 32 w), BitVec.ofNat 100 (w % 2 ^ 32)⟩
  else ⟨.packet, BitVec.ofNat 100 w⟩

/-- The operation the decoder reads from an instruction whose bits are `w`. -/
def decodeTableWord (nbits w : Nat) : Option Instr :=
  match decode (tableCarrier nbits w) with
  | .ok i => some i
  | .error _ => none

end Sys2Proof
end

