-- ==== Sys2Proof/Config.lean ====
section
/-! DEFINITION. What the spec leaves to an implementation or to the environment (`00_scope.md` R9):
the record of open parameters, which State carries as plain data, and the constants nothing
determines, which are opaque. -/

namespace Sys2Proof

/-- A byte store: (offset, byte) pairs, offsets strictly rising, no entry equal to what an unlisted
offset reads as (`Machine.Memory.wf`). -/
abbrev Memory := List Host.Cell

/-- A byte sequence of a given length whose bytes are held sparsely: a BIOS image (R9) or a buffer of
a snapshot (R282). -/
structure Image where
  length : Nat
  cells : Memory
  deriving DecidableEq, Repr

/-- Nine 32-bit words, one for each MEMCTRL register (R25): the registers themselves, their write
masks (R28) and their reset values. -/
structure MemCtrl where
  exp1Base : Word
  exp2Base : Word
  exp1Delay : Word
  exp3Delay : Word
  biosDelay : Word
  spuDelay : Word
  cdromDelay : Word
  exp2Delay : Word
  commonDelay : Word
  deriving DecidableEq, Repr

/-- `MEMDELAY_LAYOUT` (R9, R26): the lowest bit of `access_time` (four bits) and the bit of each flag.
`useCom1` is named by the spec and read by no rule (R170). -/
structure MemDelayLayout where
  accessTime : Nat
  useCom0 : Nat
  useCom1 : Nat
  useCom2 : Nat
  useCom3 : Nat
  dataBus16 : Nat
  deriving DecidableEq, Repr

/-- `COMDELAY_LAYOUT` (R9, R27): the lowest bit of each four-bit field. `com1` is read by no rule. -/
structure ComDelayLayout where
  com0 : Nat
  com1 : Nat
  com2 : Nat
  com3 : Nat
  deriving DecidableEq, Repr

/-- The open parameters of R9 that have a type a state can hold. No operation changes them, and a
statement about every state is a statement about every value of them (notes/assumptions 5, 6, 7). -/
structure Platform where
  memDelay : MemDelayLayout
  comDelay : ComDelayLayout
  wmask : MemCtrl
  memctrlReset : MemCtrl
  ramSizeReset : Word
  irqTmr0 : Nat
  downcountNone : Nat
  biosImage : Image
  ramInit : Memory
  scratchInit : Memory
  deriving DecidableEq, Repr

/-- `EXP1_TICKS(type, size)` (R126): fully open, so nothing here says what it is, but one cost for both
types of a request (R125; notes/assumptions 8). -/
opaque Config.exp1Ticks : Size → Nat

/-- `EXP2_TICKS(type, size)` (R126): fully open, one cost for both types of a request (R125;
notes/assumptions 8). -/
opaque Config.exp2Ticks : Size → Nat

/-- What a collaborator answers to the `n`-th forwarded read when no answer stands in the state: any
value (R52; notes/assumptions 4). -/
opaque Config.collabAnswer : Nat → Word

/-- The byte at index `n` of an expansion ROM whose packet announced it and whose payload does not
hold it: any value (notes/assumptions 9). -/
opaque Config.absentRomByte : Nat → Byte

end Sys2Proof
end

