-- ==== Sys2Proof/Machine/Memory.lean ====
section
/-! DEFINITION. The byte stores and the little-endian accesses over them (`00_scope.md` R14,
`20_memory.md` R67). -/

namespace Sys2Proof.Machine

/-- What an offset that is not listed reads as. DESIGN CHOICE, unsafe: the spec leaves the contents of
RAM and scratchpad at reset open (R54; notes/assumptions 7). -/
def blankByte : Byte := 0

/-- The byte at an offset. -/
def Memory.read : Memory → Nat → Byte
  | [], _ => blankByte
  | (b, w) :: rest, a => if a = b then w else Memory.read rest a

/-- The store with one byte changed, in canonical form again: a byte equal to `blankByte` is not listed. -/
def Memory.write : Memory → Nat → Byte → Memory
  | [], a, v => if v = blankByte then [] else [(a, v)]
  | (b, w) :: rest, a, v =>
    if a < b then if v = blankByte then (b, w) :: rest else (a, v) :: (b, w) :: rest
    else if a = b then if v = blankByte then rest else (a, v) :: rest
    else (b, w) :: Memory.write rest a v

/-- Every listed offset is above `lo`, the offsets rise, and no entry is `blankByte`. -/
def Memory.wfAbove : Nat → Memory → Bool
  | _, [] => true
  | lo, (a, v) :: rest => decide (lo < a) && decide (v ≠ blankByte) && Memory.wfAbove a rest

/-- The canonical form: offsets strictly rising, no entry equal to what an unlisted offset reads as. -/
def Memory.wf : Memory → Bool
  | [] => true
  | (a, v) :: rest => decide (v ≠ blankByte) && Memory.wfAbove a rest

/-- Every listed offset lies in a store of `size` bytes. -/
def Memory.within (m : Memory) (size : Nat) : Bool :=
  m.all fun c => decide (c.1 < size)

/-- The canonical form of a store of `size` bytes. -/
def Memory.ok (m : Memory) (size : Nat) : Bool :=
  Memory.wf m && Memory.within m size

/-- `StoreRead(S, off, n)` (R14): the little-endian value of `n` bytes, given the store's read. -/
def storeRead (rd : Nat → Byte) (off : Nat) : Nat → Nat
  | 0 => 0
  | n + 1 => (rd off).toNat + 256 * storeRead rd (off + 1) n

/-- `StoreWrite(S, off, n, v)` (R14): the low `n` bytes of `v`, least significant at the lowest offset. -/
def storeWrite (m : Memory) (off v : Nat) : Nat → Memory
  | 0 => m
  | n + 1 => storeWrite (Memory.write m off (BitVec.ofNat 8 v)) (off + 1) (v / 256) n

/-- The byte of an expansion ROM at an offset inside it (R140). -/
def romRead (rom : List Byte) (off : Nat) : Byte :=
  rom.getD off 0

/-- The read-modify-write of `PatchBios` on the word at `off` (R274): `(old & ~mask) | value`. -/
def patchWord (bios : Memory) (off : Nat) (value mask : Word) : Memory :=
  storeWrite bios off
    ((BitVec.ofNat 32 (storeRead (Memory.read bios) off 4) &&& ~~~mask) ||| value).toNat 4

/-- R322: the two start-up patches of the BIOS image. -/
def startupPatches (image : Memory) : Memory :=
  patchWord (patchWord image 0x6F0C 0x24010001 0xFFFFFFFF) 0x6F14 0xAF81A9C0 0xFFFFFFFF

/-- The image describes exactly `size` bytes, in canonical form. -/
def Image.exactly (im : Image) (size : Nat) : Bool :=
  decide (im.length = size) && Memory.ok im.cells size

end Sys2Proof.Machine
end

