-- ==== Sys2Proof/Machine/Suggested.lean ====
section
/-! DEFINITION. The values of the open parameters at `State.reset`: the suggested instantiations of
`00_scope.md` R9 (PRESUMED, notes/assumptions 5), an all-zero BIOS image (DESIGN CHOICE,
notes/assumptions 6) and all-zero RAM and scratchpad (DESIGN CHOICE, notes/assumptions 7). -/

namespace Sys2Proof.Machine

/-- Suggested `MEMDELAY_LAYOUT` (R9, R26). PRESUMED, unsafe. -/
def suggestedMemDelay : MemDelayLayout :=
  { accessTime := 4, useCom0 := 8, useCom1 := 9, useCom2 := 10, useCom3 := 11, dataBus16 := 12 }

/-- Suggested `COMDELAY_LAYOUT` (R9, R27). PRESUMED, unsafe. -/
def suggestedComDelay : ComDelayLayout :=
  { com0 := 0, com1 := 4, com2 := 8, com3 := 12 }

/-- Suggested `MEMCTRL_WMASK` (R9, R163). PRESUMED, unsafe. -/
def suggestedWmask : MemCtrl :=
  { exp1Base := 0xAF1FFFFF, exp2Base := 0xAF1FFFFF, exp1Delay := 0xAF1FFFFF, exp3Delay := 0xAF1FFFFF
    biosDelay := 0xAF1FFFFF, spuDelay := 0xAF1FFFFF, cdromDelay := 0xAF1FFFFF
    exp2Delay := 0xAF1FFFFF, commonDelay := 0x0003FFFF }

/-- Suggested `MEMCTRL_RESET` (R9). PRESUMED, unsafe. -/
def suggestedMemctrlReset : MemCtrl :=
  { exp1Base := 0x1F000000, exp2Base := 0x1F802000, exp1Delay := 0x0013243F, exp3Delay := 0x00003022
    biosDelay := 0x0013243F, spuDelay := 0x200931E1, cdromDelay := 0x00020843
    exp2Delay := 0x00070777, commonDelay := 0x00031125 }

/-- The parameters at `State.reset`. -/
def suggestedPlatform : Platform :=
  { memDelay := suggestedMemDelay
    comDelay := suggestedComDelay
    wmask := suggestedWmask
    memctrlReset := suggestedMemctrlReset
    ramSizeReset := 0x00000B88
    irqTmr0 := 4
    downcountNone := 0x7FFFFFFF
    biosImage := ⟨0x80000, []⟩
    ramInit := []
    scratchInit := [] }

end Sys2Proof.Machine
end

