-- ==== Sys2Proof/Machine/Timing.lean ====
section
/-! DEFINITION. The memory timing calculator (`41_memctrl_timing.md` R170 to R172) and the nine MEMCTRL
words by register. -/

namespace Sys2Proof.Machine

/-- The cost of an access of each size (R42). -/
structure AccessTime where
  byte : Nat
  half : Nat
  word : Nat
  deriving DecidableEq, Repr

/-- The entry of a table for the size of a request (R124). -/
def AccessTime.of (t : AccessTime) : Size → Nat
  | .byte => t.byte
  | .half => t.half
  | .word => t.word

/-- The word of a register (R25). -/
def MemCtrl.get (m : MemCtrl) : McReg → Word
  | .exp1Base => m.exp1Base
  | .exp2Base => m.exp2Base
  | .exp1Delay => m.exp1Delay
  | .exp3Delay => m.exp3Delay
  | .biosDelay => m.biosDelay
  | .spuDelay => m.spuDelay
  | .cdromDelay => m.cdromDelay
  | .exp2Delay => m.exp2Delay
  | .commonDelay => m.commonDelay

/-- The words with one register replaced. -/
def MemCtrl.set (m : MemCtrl) (r : McReg) (w : Word) : MemCtrl :=
  match r with
  | .exp1Base => { m with exp1Base := w }
  | .exp2Base => { m with exp2Base := w }
  | .exp1Delay => { m with exp1Delay := w }
  | .exp3Delay => { m with exp3Delay := w }
  | .biosDelay => { m with biosDelay := w }
  | .spuDelay => { m with spuDelay := w }
  | .cdromDelay => { m with cdromDelay := w }
  | .exp2Delay => { m with exp2Delay := w }
  | .commonDelay => { m with commonDelay := w }

/-- The register of an index (R98): `index = reg_off / 4`, in 0 to 8. -/
def McReg.ofIndex : Nat → McReg
  | 0 => .exp1Base
  | 1 => .exp2Base
  | 2 => .exp1Delay
  | 3 => .exp3Delay
  | 4 => .biosDelay
  | 5 => .spuDelay
  | 6 => .cdromDelay
  | 7 => .exp2Delay
  | _ => .commonDelay

/-- The four-bit field of `w` whose lowest bit is `lo`. -/
def field4 (w : Word) (lo : Nat) : Int :=
  Int.ofNat ((w.toNat >>> lo) % 16)

/-- `Calc(md, cd)` (R171), on mathematical integers (R172). -/
def calcTimes (ml : MemDelayLayout) (cl : ComDelayLayout) (md cd : Word) : AccessTime :=
  let com0 := if md.getLsbD ml.useCom0 then field4 cd cl.com0 - 1 else 0
  let com2 := if md.getLsbD ml.useCom2 then field4 cd cl.com2 else 0
  let least := if md.getLsbD ml.useCom3 then field4 cd cl.com3 else 0
  let access := field4 md ml.accessTime + 2
  let common := com0 + com2
  let first := max ((if common < 6 then common + 1 else common) + access) (least + 6)
  let seq := max (common + access) (least + 2)
  if md.getLsbD ml.dataBus16 then ⟨first.toNat, first.toNat, (first + seq).toNat⟩
  else ⟨first.toNat, (first + seq).toNat, (first + seq + seq + seq).toNat⟩

/-- `Calc` of a region's delay register with `common_delay` (R171). -/
def Platform.timing (p : Platform) (m : MemCtrl) (r : McReg) : AccessTime :=
  calcTimes p.memDelay p.comDelay (MemCtrl.get m r) (MemCtrl.get m .commonDelay)

end Sys2Proof.Machine
end

