-- ==== Sys2Proof/Machine/State.lean ====
section
/-! DEFINITION. The state of the block (`10_state.md` R20), the model's own fields beside it, the reasons
a step can stop, and the state after reset (R54). -/

namespace Sys2Proof.Machine

/-- The record of a timer (R30). `mode` has the layout of R31. -/
structure Timer where
  counter : Half
  target : Half
  mode : Half
  gate : Bool
  irqDone : Bool
  deriving DecidableEq, Repr

/-- `T[0..2]` (R30). -/
structure Timers where
  t0 : Timer
  t1 : Timer
  t2 : Timer
  deriving DecidableEq, Repr

/-- The output events (R53). -/
inductive Event
  | collabRead (c : Collab) (off : Nat) (size : Size)
  | collabWrite (c : Collab) (off : Nat) (size : Size) (v : Word)
  | irq (id : Nat)
  | setDowncount (n : Nat)
  | synchronize
  | ttyLine (bytes : List Byte)
  | postStatus (nibble : BitVec 4)
  deriving DecidableEq, Repr

/-- The reasons of a refused operation, with their codes 1 to 6 in this order (R295). -/
inductive RefuseReason
  | misaligned
  | assertWidth
  | reservedOp
  | biosLoadFailed
  | badPatchAddress
  | stateMismatch
  deriving DecidableEq, Repr

/-- The status of a response (R94, R290): codes 0, 1 and 2 with a reason. -/
inductive Status
  | ok
  | invalid
  | refused (r : RefuseReason)
  deriving DecidableEq, Repr

/-- The response of an operation (R94). -/
structure Response where
  status : Status
  rdata : Word
  ticks : Nat
  deriving DecidableEq, Repr

/-- The snapshot of `SAVE` and `LOAD` (R282). -/
structure Snapshot where
  exp1Time : AccessTime
  exp2Time : AccessTime
  biosTime : AccessTime
  cdromTime : AccessTime
  spuTime : AccessTime
  ram : Image
  bios : Image
  memctrl : MemCtrl
  ramSizeReg : Word
  ttyLine : List Byte
  timers : Timers
  carry : Nat
  scratch : Image
  downcount : Nat
  deriving DecidableEq, Repr

/-- What travels beside a packet (R107): the bytes of `EXPROM`, the snapshot of `LOAD`. -/
structure Payload where
  bytes : List Byte
  snapshot : Option Snapshot
  deriving DecidableEq, Repr

/-- One operation presented by an agent: its carrier and what travels beside it. -/
structure Presented where
  carrier : Carrier
  payload : Payload
  deriving DecidableEq, Repr

/-- The state: the components of R20, then the model's own fields (`inbox` and below), which are the
interface of the block and its open parameters (notes/assumptions 1, 4, 5, 11). -/
structure State where
  /-- `RAM` (R44). -/
  ram : Memory
  /-- `SCRATCH` (R45). -/
  scratch : Memory
  /-- `BIOS` (R46). -/
  bios : Memory
  /-- `EXP1ROM` (R47). -/
  exp1Rom : List Byte
  /-- `MEMCTRL[0..8]` (R25). -/
  memctrl : MemCtrl
  /-- `RAM_SIZE_REG` (R29). -/
  ramSizeReg : Word
  /-- `bios_access_time` (R42). -/
  biosTime : AccessTime
  /-- `cdrom_access_time` (R42). -/
  cdromTime : AccessTime
  /-- `spu_access_time` (R42). -/
  spuTime : AccessTime
  /-- `exp1_access_time`, inert (R43). -/
  exp1Time : AccessTime
  /-- `exp2_access_time`, inert (R43). -/
  exp2Time : AccessTime
  /-- `tty_line` (R48). -/
  ttyLine : List Byte
  /-- `T[0..2]` (R30). -/
  timers : Timers
  /-- `sysclk_div_8_carry` (R40). -/
  carry : Nat
  /-- `downcount` (R41). -/
  downcount : Nat
  /-- `trace`, oldest event first (R53). -/
  trace : List Event
  /-- Operations presented and not yet served, oldest first. -/
  inbox : List Presented
  /-- What travels beside the packet being served. -/
  payload : Payload
  /-- The response of the last operation (R94). -/
  response : Response
  /-- The snapshot the last `SAVE` returned (R280). -/
  saved : Option Snapshot
  /-- Answers the collaborators will give to forwarded reads, oldest first (R52). -/
  answers : List Word
  /-- The number of forwarded reads so far: the index of the free answer when `answers` is empty. -/
  collabReads : Nat
  /-- The open parameters (R9). -/
  platform : Platform
  deriving DecidableEq, Repr

/-- The reasons the machine stops with a fault: none. The block takes no traps and no operation is left
half done (R290, R303); every outcome is a response of a next state (notes/assumptions 3). -/
inductive Fault
  deriving DecidableEq, Repr

/-- The reasons a step has no meaning. Every operation of this model has one. -/
inductive Refusal
  /-- Raised by `exec` for an instruction without a meaning; safe. No arm of this model raises it. -/
  | notModelled (mnemonic : String)
  deriving DecidableEq, Repr

/-- A timer after reset (R54). -/
def Timer.reset : Timer :=
  { counter := 0, target := 0, mode := 0, gate := false, irqDone := false }

/-- The table of R54 for given parameters, with nothing presented and the response of `RESET`. -/
def State.afterReset (p : Platform) : State :=
  { ram := p.ramInit
    scratch := p.scratchInit
    bios := startupPatches p.biosImage.cells
    exp1Rom := []
    memctrl := p.memctrlReset
    ramSizeReg := p.ramSizeReset
    biosTime := Platform.timing p p.memctrlReset .biosDelay
    cdromTime := Platform.timing p p.memctrlReset .cdromDelay
    spuTime := Platform.timing p p.memctrlReset .spuDelay
    exp1Time := ⟨0, 0, 0⟩
    exp2Time := ⟨0, 0, 0⟩
    ttyLine := []
    timers := ⟨Timer.reset, Timer.reset, Timer.reset⟩
    carry := 0
    downcount := p.downcountNone
    trace := []
    inbox := []
    payload := ⟨[], none⟩
    response := ⟨.ok, 0, 0⟩
    saved := none
    answers := []
    collabReads := 0
    platform := p }

/-- The state after reset (R54, R320) under the parameters of `suggestedPlatform`. -/
def State.reset : State :=
  State.afterReset suggestedPlatform

end Sys2Proof.Machine
end

