-- ==== Sys2Proof/Machine/Operands.lean ====
section
/-! DEFINITION. Operand forms: sizes, the segment fold, the address decoder, alignment and the lane rule
(`20_memory.md` R62 to R71, `30_encoding.md` R95 to R98, `42_peripheral_mux.md` R190, R191). -/

namespace Sys2Proof.Machine

/-- `nbytes(size)` (R13). -/
def nbytes : Size → Nat
  | .byte => 1
  | .half => 2
  | .word => 4

/-- `zext_32(trunc_nbits(size)(v))` (R13, R94, R96). -/
def truncTo (size : Size) (v : Word) : Word :=
  match size with
  | .byte => (v.setWidth 8).setWidth 32
  | .half => (v.setWidth 16).setWidth 32
  | .word => v

/-- `ones(size)` (R13, R121), in the low bits of a response word. -/
def ones (size : Size) : Word :=
  truncTo size 0xFFFFFFFF

/-- The write value of a request (R96). -/
def Access.wdata (x : Access) : Word :=
  truncTo x.size x.value

/-- `pa = addr & 0x1FFFFFFF` (R62). -/
def physAddr (a : Word) : Nat :=
  (a &&& 0x1FFFFFFF).toNat

/-- `Decode(pa)` (R63): the region and the offset in it, or none for an INVALID address. -/
def decodePhys (pa : Nat) : Option (Region × Nat) :=
  if pa < 0x00800000 then some (.ram, pa % 0x00200000)
  else if 0x1F000000 ≤ pa ∧ pa < 0x1F800000 then some (.exp1, pa - 0x1F000000)
  else if 0x1F800000 ≤ pa ∧ pa < 0x1F800400 then some (.scratchpad, pa - 0x1F800000)
  else if 0x1F801000 ≤ pa ∧ pa < 0x1F801024 then some (.memctrl, pa - 0x1F801000)
  else if 0x1F801040 ≤ pa ∧ pa < 0x1F801050 then some (.pad, pa - 0x1F801040)
  else if 0x1F801050 ≤ pa ∧ pa < 0x1F801060 then some (.sio, pa - 0x1F801050)
  else if 0x1F801060 ≤ pa ∧ pa < 0x1F801064 then some (.memctrl2, pa - 0x1F801060)
  else if 0x1F801070 ≤ pa ∧ pa < 0x1F801078 then some (.intc, pa - 0x1F801070)
  else if 0x1F801080 ≤ pa ∧ pa < 0x1F801100 then some (.dma, pa - 0x1F801080)
  else if 0x1F801100 ≤ pa ∧ pa < 0x1F801130 then some (.timers, pa - 0x1F801100)
  else if 0x1F801800 ≤ pa ∧ pa < 0x1F801804 then some (.cdrom, pa - 0x1F801800)
  else if 0x1F801810 ≤ pa ∧ pa < 0x1F801818 then some (.gpu, pa - 0x1F801810)
  else if 0x1F801820 ≤ pa ∧ pa < 0x1F801828 then some (.mdec, pa - 0x1F801820)
  else if 0x1F801C00 ≤ pa ∧ pa < 0x1F801E80 then some (.spu, pa - 0x1F801C00)
  else if 0x1F802000 ≤ pa ∧ pa < 0x1F804000 then some (.exp2, pa - 0x1F802000)
  else if 0x1FC00000 ≤ pa ∧ pa < 0x1FC80000 then some (.bios, pa - 0x1FC00000)
  else none

/-- The regions whose 32-bit registers take every size and alignment by the lane rule (R71, R192). -/
def adapted : Region → Bool
  | .memctrl | .memctrl2 | .intc | .dma | .timers => true
  | .ram | .exp1 | .scratchpad | .pad | .sio | .cdrom | .gpu | .mdec | .spu | .exp2 | .bios => false

/-- A request is aligned when `pa % nbytes(size) = 0` (R69). -/
def aligned (size : Size) (pa : Nat) : Bool :=
  pa % nbytes size == 0

/-- `reg_off = off & ~3` (R97). -/
def regOff (off : Nat) : Nat :=
  off - off % 4

/-- Lane rule, read (R190): the register shifted right to the request's lane, truncated to its size. -/
def laneRead (size : Size) (off : Nat) (w : Word) : Word :=
  truncTo size (w >>> (off % 4 * 8))

/-- Lane rule, write (R191): the value shifted left to the request's lane, the other lanes zero. -/
def laneWrite (x : Access) (off : Nat) : Word :=
  Access.wdata x <<< (off % 4 * 8)

/-- `timer = reg_off[5:4]` inside the 48-byte region (R98). -/
def timerOfOffset (off : Nat) : TimerId :=
  if off / 16 = 0 then .t0 else if off / 16 = 1 then .t1 else .t2

/-- `port = reg_off[3:0]` (R98). -/
def portOfOffset (off : Nat) : TimerPort :=
  if off % 16 / 4 = 0 then .counter
  else if off % 16 / 4 = 1 then .mode
  else if off % 16 / 4 = 2 then .target
  else .none

/-- The timer of a `GATE` or `XCLK` operand (R99); an operand above 2 is reserved (R106). -/
def timerOfOperand (a : Word) : Option TimerId :=
  if a.toNat = 0 then some .t0
  else if a.toNat = 1 then some .t1
  else if a.toNat = 2 then some .t2
  else none

/-- The index `i` of a timer. -/
def timerIndex : TimerId → Nat
  | .t0 => 0
  | .t1 => 1
  | .t2 => 2

/-- The data of a `StoreRead` of a request's size (R14). -/
def loadWord (rd : Nat → Byte) (off : Nat) (size : Size) : Word :=
  BitVec.ofNat 32 (storeRead rd off (nbytes size))

end Sys2Proof.Machine
end

