-- ==== Sys2Proof/Machine/Flags.lean ====
section
/-! DEFINITION. The fields of a timer's mode register (`10_state.md` R31), the flags derived from it
(R37 to R39) and what moves `reached_target`, `reached_overflow`, `interrupt_request_n` and `irq_done`
(`43_timers.md` R224, R225, R244 to R246). -/

namespace Sys2Proof.Machine

/-- `sync_enable`, mode bit 0. -/
def Timer.syncEnable (t : Timer) : Bool := t.mode.getLsbD 0

/-- `sync_mode`, mode bits 2:1. -/
def Timer.syncMode (t : Timer) : BitVec 2 := t.mode.extractLsb' 1 2

/-- `reset_at_target`, mode bit 3. -/
def Timer.resetAtTarget (t : Timer) : Bool := t.mode.getLsbD 3

/-- `irq_at_target`, mode bit 4. -/
def Timer.irqAtTarget (t : Timer) : Bool := t.mode.getLsbD 4

/-- `irq_on_overflow`, mode bit 5. -/
def Timer.irqOnOverflow (t : Timer) : Bool := t.mode.getLsbD 5

/-- `irq_repeat`, mode bit 6. -/
def Timer.irqRepeat (t : Timer) : Bool := t.mode.getLsbD 6

/-- `irq_pulse_n`, mode bit 7: clear in pulse mode, set in toggle mode. -/
def Timer.irqPulseN (t : Timer) : Bool := t.mode.getLsbD 7

/-- `clock_source`, mode bits 9:8. -/
def Timer.clockSource (t : Timer) : BitVec 2 := t.mode.extractLsb' 8 2

/-- `interrupt_request_n`, mode bit 10, active low. -/
def Timer.interruptRequestN (t : Timer) : Bool := t.mode.getLsbD 10

/-- `reached_target`, mode bit 11. -/
def Timer.reachedTarget (t : Timer) : Bool := t.mode.getLsbD 11

/-- `reached_overflow`, mode bit 12. -/
def Timer.reachedOverflow (t : Timer) : Bool := t.mode.getLsbD 12

/-- The timer with the mode bits of `mask` set. -/
def Timer.setMode (t : Timer) (mask : Half) : Timer :=
  { t with mode := t.mode ||| mask }

/-- The timer with the mode bits of `mask` cleared. -/
def Timer.clearMode (t : Timer) (mask : Half) : Timer :=
  { t with mode := t.mode &&& ~~~mask }

/-- `use_external_clock(i)` (R37): `clock_source & 2` for timer 2, `clock_source & 1` for the others. -/
def useExternalClock (i : TimerId) (t : Timer) : Bool :=
  match i with
  | .t0 => (Timer.clockSource t).getLsbD 0
  | .t1 => (Timer.clockSource t).getLsbD 0
  | .t2 => (Timer.clockSource t).getLsbD 1

/-- `counting_enabled(i)` (R38). -/
def countingEnabled (t : Timer) : Bool :=
  if Timer.syncEnable t then
    match (Timer.syncMode t).toNat with
    | 0 => !t.gate
    | 1 => true
    | _ => t.gate
  else true

/-- `external_counting_enabled(i)` (R39). -/
def externalCounting (i : TimerId) (t : Timer) : Bool :=
  useExternalClock i t && countingEnabled t

/-- `UpdateIRQ(i)` (R246): the timer after it, and whether it fires. -/
def updateIrq (t : Timer) : Timer × Bool :=
  if !Timer.interruptRequestN t && !(!Timer.irqRepeat t && t.irqDone) then
    ({ t with irqDone := true }, true)
  else (t, false)

/-- `RaiseRequest(i)` (R245): the timer after it, and whether an interrupt fires. -/
def raiseRequest (t : Timer) : Timer × Bool :=
  if Timer.irqPulseN t then updateIrq { t with mode := t.mode ^^^ 0x0400 }
  else
    let r := updateIrq (Timer.clearMode t 0x0400)
    (Timer.setMode r.1 0x0400, r.2)

/-- The target test of `AddTicks` (R244): the counter crosses the target in this call. -/
def crossesTarget (t : Timer) (n : Nat) : Bool :=
  decide (t.target.toNat ≤ t.counter.toNat + n) && decide (t.counter.toNat < t.target.toNat)

/-- The overflow test of `AddTicks` (R244): the sum reaches `0xFFFF`. -/
def reachesOverflow (t : Timer) (n : Nat) : Bool :=
  decide (0xFFFF ≤ t.counter.toNat + n)

/-- The flags `AddTicks` sets before the request is made (R244). -/
def noteEvents (t : Timer) (n : Nat) : Timer :=
  let t := if crossesTarget t n then Timer.setMode t 0x0800 else t
  if reachesOverflow t n then Timer.setMode t 0x1000 else t

/-- The counter after `AddTicks` (R244): a remainder by the target or by `0xFFFF`. -/
def wrapCounter (t : Timer) (n : Nat) : Half :=
  let c := t.counter.toNat + n
  if Timer.resetAtTarget t then
    if t.target.toNat = 0 then 0 else BitVec.ofNat 16 (c % t.target.toNat)
  else BitVec.ofNat 16 (c % 0xFFFF)

/-- `AddTicks(i, n)` on the timer's record (R244): the timer after it, and whether an interrupt fires. -/
def addTicks (t : Timer) (n : Nat) : Timer × Bool :=
  let noted := noteEvents t n
  let r := if crossesTarget t n || reachesOverflow t n then raiseRequest noted else (noted, false)
  ({ r.1 with counter := wrapCounter t n }, r.2)

/-- The mode a mode write stores (R225): the low 13 bits, bit 10 forced to 1 if bit 7 is written 1. -/
def storedMode (v : Word) : Half :=
  let m := v.setWidth 16 &&& 0x1FFF
  if m.getLsbD 7 then m ||| 0x0400 else m

/-- The timer after a mode write (R225, R36). -/
def writeMode (t : Timer) (v : Word) : Timer :=
  { t with mode := storedMode v, counter := 0, irqDone := false }

/-- The timer after a mode read (R224). -/
def modeReadDone (t : Timer) : Timer :=
  Timer.clearMode t 0x1800

/-- `SetGate(i, level)` on the timer's record (R230). -/
def setGate (t : Timer) (level : Bool) : Timer :=
  if t.gate = level then t
  else
    let t := { t with gate := level }
    if level && Timer.syncEnable t then
      match (Timer.syncMode t).toNat with
      | 0 => t
      | 1 => { t with counter := 0 }
      | 2 => { t with counter := 0 }
      | _ => Timer.clearMode t 0x0001
    else t

/-- The horizon of one timer in `ComputeDowncount` (R248), none if the timer is not eligible. -/
def horizon (i : TimerId) (t : Timer) : Option Nat :=
  let ahead := decide (t.counter.toNat < t.target.toNat)
  let atTarget :=
    if Timer.irqAtTarget t && ahead then some (t.target.toNat - t.counter.toNat) else none
  let onOverflow := if Timer.irqOnOverflow t && ahead then some (0xFFFF - t.counter.toNat) else none
  let nearest :=
    match atTarget, onOverflow with
    | none, none => none
    | some a, none => some a
    | none, some b => some b
    | some a, some b => some (min a b)
  if !countingEnabled t then none
  else
    match i with
    | .t0 => if useExternalClock .t0 t then none else nearest
    | .t1 => if useExternalClock .t1 t then none else nearest
    | .t2 => if useExternalClock .t2 t then nearest.map fun m => max 1 (m / 8) else nearest

/-- The smaller of the best horizon so far and a timer's own. -/
def nearer (best : Nat) : Option Nat → Nat
  | none => best
  | some m => min best m

/-- `ComputeDowncount()` (R248). -/
def computeDowncount (sentinel : Nat) (ts : Timers) : Nat :=
  nearer (nearer (nearer sentinel (horizon .t0 ts.t0)) (horizon .t1 ts.t1)) (horizon .t2 ts.t2)

end Sys2Proof.Machine
end

