-- ==== Sys2Proof/Machine/Ops.lean ====
section
/-! DEFINITION. The named operations over the state that every meaning uses: responses (`30_encoding.md`
R94), the guard of a bus request (`60_exceptions.md` R302), events and forwarded accesses
(`10_state.md` R52, R53), timers and the tick pump (`43_timers.md` R240 to R250), the recomputation of
the timing tables (`41_memctrl_timing.md` R171).

The block takes no exception and returns from none (R303, R304). What it has instead is a status in the
response: `State.refuse` (R295) and `State.invalid` (R291) are the shared operations that answer one. -/

namespace Sys2Proof.Machine

/-- What `exec` and every meaning answer. -/
abbrev Result := Host.Outcome State Fault Refusal

/-- The state with the response of the operation (R94). -/
def State.respond (s : State) (status : Status) (rdata : Word) (ticks : Nat) : State :=
  { s with response := ⟨status, rdata, ticks⟩ }

/-- `refuse R` (R295): no data, no ticks, no other change. -/
def State.refuse (s : State) (r : RefuseReason) : State :=
  State.respond s (.refused r) 0 0

/-- A served request (R120, R123): data on a read, zero on a write. -/
def State.served (s : State) (x : Access) (data : Word) (ticks : Nat) : State :=
  State.respond s .ok (match x.dir with | .read => data | .write => 0) ticks

/-- An invalid access (R155, R291): ones on a read, the write dropped, one tick. -/
def State.invalid (s : State) (x : Access) : State :=
  State.respond s .invalid (match x.dir with | .read => ones x.size | .write => 0) 1

/-- A sideband operation that succeeded (R94): no data, no ticks. -/
def State.done (s : State) : State :=
  State.respond s .ok 0 0

/-- `emit E` (R53). -/
def State.emit (s : State) (e : Event) : State :=
  { s with trace := s.trace ++ [e] }

/-- The checks before a request is served, first match wins (R302): a reserved `pend`, then
misalignment outside the adapted regions. `pa` may be any number equal to the physical address
modulo 4. -/
def guardRequest (isAdapted : Bool) (pa : Nat) (x : Access) (serve : State → State) (s : State) : State :=
  if pendOk x.pend then
    if !isAdapted && !aligned x.size pa then State.refuse s .misaligned
    else serve s
  else State.refuse s .reservedOp

/-- What the environment answers to the next forwarded read: the oldest answer it holds, else any value
(R52; notes/assumptions 4). -/
def State.nextAnswer (s : State) : Word :=
  match s.answers with
  | [] => Config.collabAnswer s.collabReads
  | v :: _ => v

/-- The state after a forwarded read `C.Read(off, size)` (R52, R194). -/
def State.afterCollabRead (s : State) (c : Collab) (off : Nat) (size : Size) : State :=
  { s with
    trace := s.trace ++ [.collabRead c off size]
    answers := s.answers.tail
    collabReads := s.collabReads + 1 }

/-- The answer to a forwarded read, `nbits(size)` bits (R52). -/
def State.collabData (s : State) (size : Size) : Word :=
  truncTo size (State.nextAnswer s)

/-- A forwarded write `C.Write(off, size, v)` (R52, R194). -/
def State.collabWrite (s : State) (c : Collab) (off : Nat) (size : Size) (v : Word) : State :=
  State.emit s (.collabWrite c off size v)

/-- `T[i]`. -/
def Timers.get (ts : Timers) : TimerId → Timer
  | .t0 => ts.t0
  | .t1 => ts.t1
  | .t2 => ts.t2

/-- The timers with `T[i]` replaced. -/
def Timers.set (ts : Timers) (i : TimerId) (t : Timer) : Timers :=
  match i with
  | .t0 => { ts with t0 := t }
  | .t1 => { ts with t1 := t }
  | .t2 => { ts with t2 := t }

/-- `T[i]` of the state. -/
def State.timer (s : State) (i : TimerId) : Timer :=
  Timers.get s.timers i

/-- The state with `T[i]` replaced. -/
def State.setTimer (s : State) (i : TimerId) (t : Timer) : State :=
  { s with timers := Timers.set s.timers i t }

/-- `AddTicks(i, n)` (R244), with the interrupt request of `UpdateIRQ` (R246). -/
def State.addTicks (s : State) (i : TimerId) (n : Nat) : State :=
  let r := Machine.addTicks (State.timer s i) n
  let s := State.setTimer s i r.1
  if r.2 then State.emit s (.irq (s.platform.irqTmr0 + timerIndex i)) else s

/-- `Execute` on timer 0 or 1 (R240): raw ticks unless the timer is on its external clock. -/
def State.pumpSysclk (s : State) (i : TimerId) (n : Nat) : State :=
  if countingEnabled (State.timer s i) && !externalCounting i (State.timer s i) then
    State.addTicks s i n
  else s

/-- `Execute` on timer 2 (R240, R242): an eighth of the ticks, remainder kept, on the external clock. -/
def State.pumpTimer2 (s : State) (n : Nat) : State :=
  if externalCounting .t2 (State.timer s .t2) then
    { State.addTicks s .t2 ((n + s.carry) / 8) with carry := (n + s.carry) % 8 }
  else if countingEnabled (State.timer s .t2) then State.addTicks s .t2 n
  else s

/-- The end of `Execute` (R240): the downcount is recomputed and published. -/
def State.publishDowncount (s : State) : State :=
  let d := computeDowncount s.platform.downcountNone s.timers
  State.emit { s with downcount := d } (.setDowncount d)

/-- `Execute(n)` (R240): timers 0, 1, 2 in this order, then the downcount. -/
def State.execute (s : State) (n : Nat) : State :=
  State.publishDowncount
    (State.pumpTimer2 (State.pumpSysclk (State.pumpSysclk s .t0 n) .t1 n) n)

/-- `Synchronize(pend)` (R250). -/
def State.synchronize (s : State) (pend : Nat) : State :=
  let s := State.emit s .synchronize
  if 0 < pend then State.execute s pend else s

/-- `RecalculateMemoryTimings()` (R171). -/
def State.recalculate (s : State) : State :=
  { s with
    biosTime := Platform.timing s.platform s.memctrl .biosDelay
    cdromTime := Platform.timing s.platform s.memctrl .cdromDelay
    spuTime := Platform.timing s.platform s.memctrl .spuDelay }

/-- The state in which the oldest presented operation is being served. -/
def State.take (s : State) (p : Presented) (rest : List Presented) : State :=
  { s with inbox := rest, payload := p.payload }

end Sys2Proof.Machine
end

