-- ==== Sys2Proof/Machine/LocalStores.lean ====
section
/-! DEFINITION. The regions served from the block's own stores and debug ports: RAM, SCRATCHPAD, BIOS,
EXP1, EXP2 (`40_bus_access.md` R130 to R152) and SIO (`42_peripheral_mux.md` R196, R197). -/

namespace Sys2Proof.Machine

/-- RAM (R130, R131): four ticks at every size. -/
def serveRam (off : Nat) (x : Access) (s : State) : State :=
  match x.dir with
  | .read => State.served s x (loadWord (Memory.read s.ram) off x.size) 4
  | .write =>
    State.served { s with ram := storeWrite s.ram off (Access.wdata x).toNat (nbytes x.size) } x 0 4

/-- SCRATCHPAD (R133, R134): one tick at every size. -/
def serveScratch (off : Nat) (x : Access) (s : State) : State :=
  match x.dir with
  | .read => State.served s x (loadWord (Memory.read s.scratch) off x.size) 1
  | .write =>
    State.served { s with scratch := storeWrite s.scratch off (Access.wdata x).toNat (nbytes x.size) }
      x 0 1

/-- BIOS (R136, R137): read-only, the cost from its table. -/
def serveBios (off : Nat) (x : Access) (s : State) : State :=
  State.served s x (loadWord (Memory.read s.bios) off x.size) (s.biosTime.of x.size)

/-- The data of an EXP1 read (R140 to R142), the cases in the order of R140. -/
def exp1Data (rom : List Byte) (off : Nat) (size : Size) : Word :=
  if rom.length = 0 then ones size
  else if off = 0x20018 then 1
  else if rom.length < off + nbytes size then 0
  else loadWord (romRead rom) off size

/-- EXP1 (R140, R144): writes are ignored, and cost what a read costs (R125). -/
def serveExp1 (off : Nat) (x : Access) (s : State) : State :=
  State.served s x (exp1Data s.exp1Rom off x.size) (Config.exp1Ticks x.size)

/-- A write of the TTY character port (R150). -/
def State.ttyWrite (s : State) (ch : Byte) : State :=
  if ch = 0x0D then s
  else if ch = 0x0A then State.emit { s with ttyLine := [] } (.ttyLine s.ttyLine)
  else { s with ttyLine := s.ttyLine ++ [ch] }

/-- The data of an EXP2 read (R147, R148). -/
def exp2Data (off : Nat) (size : Size) : Word :=
  if off = 0x21 then 0x0C else ones size

/-- The effect of an EXP2 write (R150 to R152). -/
def State.exp2Write (s : State) (off : Nat) (v : Word) : State :=
  if off = 0x23 then State.ttyWrite s (v.setWidth 8)
  else if off = 0x41 then State.emit s (.postStatus (v.setWidth 4))
  else s

/-- EXP2 (R146), a write at the cost of a read (R125). -/
def serveExp2 (off : Nat) (x : Access) (s : State) : State :=
  match x.dir with
  | .read => State.served s x (exp2Data off x.size) (Config.exp2Ticks x.size)
  | .write =>
    State.served (State.exp2Write s off (Access.wdata x)) x 0 (Config.exp2Ticks x.size)

/-- SIO (R196, R197): a stub; writes are dropped. -/
def serveSio (off : Nat) (x : Access) (s : State) : State :=
  State.served s x (if off = 0x04 then 5 else 0) 2

/-- REGION_RAM: the offset is `pa & 0x1FFFFF`, the mirror bits are ignored (R64, R130, R131). -/
def execRegionRam (off : BitVec 21) (x : Access) (s : State) : Result :=
  .next (guardRequest false off.toNat x (serveRam off.toNat x) s)

/-- REGION_EXP1 (R140 to R144). -/
def execRegionExp1 (low : BitVec 23) (x : Access) (s : State) : Result :=
  .next (guardRequest false low.toNat x (serveExp1 low.toNat x) s)

/-- REGION_SCRATCHPAD (R133, R134). -/
def execRegionScratchpad (low : BitVec 10) (x : Access) (s : State) : Result :=
  .next (guardRequest false low.toNat x (serveScratch low.toNat x) s)

/-- REGION_BIOS (R136, R137). -/
def execRegionBios (low : BitVec 19) (x : Access) (s : State) : Result :=
  .next (guardRequest false low.toNat x (serveBios low.toNat x) s)

/-- REGION_EXP2 (R146 to R152). -/
def execRegionExp2 (low : BitVec 13) (x : Access) (s : State) : Result :=
  .next (guardRequest false low.toNat x (serveExp2 low.toNat x) s)

/-- REGION_SIO (R196, R197). -/
def execRegionSio (low : BitVec 4) (x : Access) (s : State) : Result :=
  .next (guardRequest false low.toNat x (serveSio low.toNat x) s)

/-- PORT_SIO_STAT, offset 4 of SIO: reads 5 (R196); a write is dropped (R197). -/
def execPortSioStat (x : Access) (s : State) : Result :=
  .next (guardRequest false 0x04 x (fun s => State.served s x 5 2) s)

/-- PORT_EXP1_AR, the Action-Replay sentinel (R141): ones with no ROM, else 1; a write is ignored. -/
def execPortExp1Ar (x : Access) (s : State) : Result :=
  .next (guardRequest false 0x20018 x
    (fun s => State.served s x (if s.exp1Rom.length = 0 then ones x.size else 1)
      (Config.exp1Ticks x.size)) s)

/-- PORT_EXP2_TTY_STATUS: reads `0x0C` (R147); a write is dropped (R152). -/
def execPortExp2TtyStatus (x : Access) (s : State) : Result :=
  .next (guardRequest false 0x21 x
    (fun s => State.served s x 0x0C (Config.exp2Ticks x.size)) s)

/-- PORT_EXP2_TTY_DATA: a write sends a character (R150); a read gives ones (R148). -/
def execPortExp2TtyData (x : Access) (s : State) : Result :=
  .next (guardRequest false 0x23 x
    (fun s =>
      match x.dir with
      | .read => State.served s x (ones x.size) (Config.exp2Ticks x.size)
      | .write =>
        State.served (State.ttyWrite s ((Access.wdata x).setWidth 8)) x 0
          (Config.exp2Ticks x.size)) s)

/-- PORT_EXP2_POST: a write emits the POST nibble (R151); a read gives ones (R148). -/
def execPortExp2Post (x : Access) (s : State) : Result :=
  .next (guardRequest false 0x41 x
    (fun s =>
      match x.dir with
      | .read => State.served s x (ones x.size) (Config.exp2Ticks x.size)
      | .write =>
        State.served (State.emit s (.postStatus ((Access.wdata x).setWidth 4))) x 0
          (Config.exp2Ticks x.size)) s)

end Sys2Proof.Machine
end

