-- ==== Sys2Proof/Machine/MemoryControl.lean ====
section
/-! DEFINITION. MEMCTRL and MEMCTRL2 as bus targets (`41_memctrl_timing.md` R160 to R166). -/

namespace Sys2Proof.Machine

/-- The value a MEMCTRL write stores (R161): bits outside the write mask keep their old value. -/
def maskedWrite (old v mask : Word) : Word :=
  (old &&& ~~~mask) ||| (v &&& mask)

/-- A 32-bit write of a MEMCTRL register (R161): the tables are recomputed if the masked value differs. -/
def State.memctrlWrite (s : State) (r : McReg) (v : Word) : State :=
  let new := maskedWrite (MemCtrl.get s.memctrl r) v (MemCtrl.get s.platform.wmask r)
  if new ≠ MemCtrl.get s.memctrl r then
    State.recalculate { s with memctrl := MemCtrl.set s.memctrl r new }
  else s

/-- A request to one MEMCTRL register at offset `off` of its region (R160, R161). -/
def serveMemctrlReg (r : McReg) (off : Nat) (x : Access) (s : State) : State :=
  match x.dir with
  | .read => State.served s x (laneRead x.size off (MemCtrl.get s.memctrl r)) 2
  | .write => State.served (State.memctrlWrite s r (laneWrite x off)) x 0 2

/-- MEMCTRL (R98, R160, R161): `index = reg_off / 4`. -/
def serveMemctrl (off : Nat) (x : Access) (s : State) : State :=
  serveMemctrlReg (McReg.ofIndex (regOff off / 4)) off x s

/-- MEMCTRL2 (R165, R166): all 32 bits writable, no other effect. -/
def serveMemctrl2 (off : Nat) (x : Access) (s : State) : State :=
  match x.dir with
  | .read => State.served s x (laneRead x.size off s.ramSizeReg) 2
  | .write => State.served { s with ramSizeReg := laneWrite x off } x 0 2

/-- REGION_MEMCTRL_a, registers 0 to 7 (R160, R161). -/
def execRegionMemctrlA (low : BitVec 5) (x : Access) (s : State) : Result :=
  .next (guardRequest true low.toNat x (serveMemctrl low.toNat x) s)

/-- REGION_MEMCTRL_b, register 8, offsets from `0x20` (R160, R161). -/
def execRegionMemctrlB (low : BitVec 2) (x : Access) (s : State) : Result :=
  .next (guardRequest true (0x20 + low.toNat) x (serveMemctrl (0x20 + low.toNat) x) s)

/-- REGION_MEMCTRL2 (R165, R166). -/
def execRegionMemctrl2 (low : BitVec 2) (x : Access) (s : State) : Result :=
  .next (guardRequest true low.toNat x (serveMemctrl2 low.toNat x) s)

/-- PORT_MEMCTRL_0_exp1_base (R160, R161). -/
def execPortMemctrl0 (lane : BitVec 2) (x : Access) (s : State) : Result :=
  .next (guardRequest true lane.toNat x (serveMemctrlReg .exp1Base lane.toNat x) s)

/-- PORT_MEMCTRL_1_exp2_base (R160, R161). -/
def execPortMemctrl1 (lane : BitVec 2) (x : Access) (s : State) : Result :=
  .next (guardRequest true lane.toNat x (serveMemctrlReg .exp2Base lane.toNat x) s)

/-- PORT_MEMCTRL_2_exp1_delay_size (R160, R161). -/
def execPortMemctrl2 (lane : BitVec 2) (x : Access) (s : State) : Result :=
  .next (guardRequest true lane.toNat x (serveMemctrlReg .exp1Delay lane.toNat x) s)

/-- PORT_MEMCTRL_3_exp3_delay_size (R160, R161). -/
def execPortMemctrl3 (lane : BitVec 2) (x : Access) (s : State) : Result :=
  .next (guardRequest true lane.toNat x (serveMemctrlReg .exp3Delay lane.toNat x) s)

/-- PORT_MEMCTRL_4_bios_delay_size (R160, R161). -/
def execPortMemctrl4 (lane : BitVec 2) (x : Access) (s : State) : Result :=
  .next (guardRequest true lane.toNat x (serveMemctrlReg .biosDelay lane.toNat x) s)

/-- PORT_MEMCTRL_5_spu_delay_size (R160, R161). -/
def execPortMemctrl5 (lane : BitVec 2) (x : Access) (s : State) : Result :=
  .next (guardRequest true lane.toNat x (serveMemctrlReg .spuDelay lane.toNat x) s)

/-- PORT_MEMCTRL_6_cdrom_delay_size (R160, R161). -/
def execPortMemctrl6 (lane : BitVec 2) (x : Access) (s : State) : Result :=
  .next (guardRequest true lane.toNat x (serveMemctrlReg .cdromDelay lane.toNat x) s)

/-- PORT_MEMCTRL_7_exp2_delay_size (R160, R161). -/
def execPortMemctrl7 (lane : BitVec 2) (x : Access) (s : State) : Result :=
  .next (guardRequest true lane.toNat x (serveMemctrlReg .exp2Delay lane.toNat x) s)

/-- PORT_MEMCTRL_8_common_delay (R160, R161). -/
def execPortMemctrl8 (lane : BitVec 2) (x : Access) (s : State) : Result :=
  .next (guardRequest true lane.toNat x (serveMemctrlReg .commonDelay lane.toNat x) s)

/-- PORT_RAM_SIZE_REG (R165, R166). -/
def execPortRamSizeReg (lane : BitVec 2) (x : Access) (s : State) : Result :=
  .next (guardRequest true lane.toNat x
    (fun s =>
      match x.dir with
      | .read => State.served s x (laneRead x.size lane.toNat s.ramSizeReg) 2
      | .write => State.served { s with ramSizeReg := laneWrite x lane.toNat } x 0 2) s)

end Sys2Proof.Machine
end

