-- ==== Sys2Proof/Machine/Multiplexer.lean ====
section
/-! DEFINITION. The peripheral register multiplexer: PAD, INTC, DMA, CDROM, GPU, MDEC, SPU
(`42_peripheral_mux.md` R190 to R207). -/

namespace Sys2Proof.Machine

/-- PAD (R195): forwarded at its own size and offset. -/
def servePad (off : Nat) (x : Access) (s : State) : State :=
  match x.dir with
  | .read =>
    State.served (State.afterCollabRead s .pad off x.size) x (State.collabData s x.size) 2
  | .write => State.served (State.collabWrite s .pad off x.size (Access.wdata x)) x 0 2

/-- A collaborator with 32-bit registers behind the lane rule (R192, R198, R199): it always sees a word
access at a 4-aligned offset. The DMA length-register exception changes nothing (R193). -/
def serveLanes (c : Collab) (off : Nat) (x : Access) (s : State) : State :=
  match x.dir with
  | .read =>
    State.served (State.afterCollabRead s c (regOff off) .word) x
      (laneRead x.size off (State.collabData s .word)) 2
  | .write => State.served (State.collabWrite s c (regOff off) .word (laneWrite x off)) x 0 2

/-- CDROM (R202, R203): byte requests are forwarded, wider ones are refused. -/
def serveCdrom (off : Nat) (x : Access) (s : State) : State :=
  match x.size with
  | .byte =>
    match x.dir with
    | .read =>
      State.served (State.afterCollabRead s .cdrom off .byte) x (State.collabData s .byte)
        (s.cdromTime.of .byte)
    | .write =>
      State.served (State.collabWrite s .cdrom off .byte (Access.wdata x)) x 0
        (s.cdromTime.of .byte)
  | .half => State.refuse s .assertWidth
  | .word => State.refuse s .assertWidth

/-- A word-native collaborator (R204, R205): narrower requests are invalid accesses. -/
def serveWordPort (c : Collab) (off : Nat) (x : Access) (s : State) : State :=
  match x.size with
  | .word =>
    match x.dir with
    | .read => State.served (State.afterCollabRead s c off .word) x (State.collabData s .word) 2
    | .write => State.served (State.collabWrite s c off .word (Access.wdata x)) x 0 2
  | .half => State.invalid s x
  | .byte => State.invalid s x

/-- SPU (R207): 16-bit native; a word is two halfword accesses, the lower offset first. -/
def serveSpu (off : Nat) (x : Access) (s : State) : State :=
  match x.size with
  | .byte => State.invalid s x
  | .half =>
    match x.dir with
    | .read =>
      State.served (State.afterCollabRead s .spu off .half) x (State.collabData s .half)
        (s.spuTime.of .half)
    | .write =>
      State.served (State.collabWrite s .spu off .half (Access.wdata x)) x 0 (s.spuTime.of .half)
  | .word =>
    match x.dir with
    | .read =>
      let s₁ := State.afterCollabRead s .spu off .half
      State.served (State.afterCollabRead s₁ .spu (off + 2) .half) x
        ((State.collabData s₁ .half <<< 16) ||| State.collabData s .half) (s.spuTime.of .word)
    | .write =>
      State.served
        (State.collabWrite (State.collabWrite s .spu off .half (truncTo .half (Access.wdata x)))
          .spu (off + 2) .half (Access.wdata x >>> 16)) x 0 (s.spuTime.of .word)

/-- REGION_PAD (R195). -/
def execRegionPad (low : BitVec 4) (x : Access) (s : State) : Result :=
  .next (guardRequest false low.toNat x (servePad low.toNat x) s)

/-- REGION_INTC (R198). -/
def execRegionIntc (low : BitVec 3) (x : Access) (s : State) : Result :=
  .next (guardRequest true low.toNat x (serveLanes .intc low.toNat x) s)

/-- REGION_DMA (R199). -/
def execRegionDma (low : BitVec 7) (x : Access) (s : State) : Result :=
  .next (guardRequest true low.toNat x (serveLanes .dma low.toNat x) s)

/-- REGION_CDROM (R202, R203). -/
def execRegionCdrom (low : BitVec 2) (x : Access) (s : State) : Result :=
  .next (guardRequest false low.toNat x (serveCdrom low.toNat x) s)

/-- REGION_GPU (R204). -/
def execRegionGpu (low : BitVec 3) (x : Access) (s : State) : Result :=
  .next (guardRequest false low.toNat x (serveWordPort .gpu low.toNat x) s)

/-- REGION_MDEC (R205). -/
def execRegionMdec (low : BitVec 3) (x : Access) (s : State) : Result :=
  .next (guardRequest false low.toNat x (serveWordPort .mdec low.toNat x) s)

/-- REGION_SPU_a, offsets `0x000` to `0x1FF` (R207). -/
def execRegionSpuA (low : BitVec 9) (x : Access) (s : State) : Result :=
  .next (guardRequest false low.toNat x (serveSpu low.toNat x) s)

/-- REGION_SPU_b, offsets `0x200` to `0x27F` (R207). -/
def execRegionSpuB (low : BitVec 7) (x : Access) (s : State) : Result :=
  .next (guardRequest false (0x200 + low.toNat) x (serveSpu (0x200 + low.toNat) x) s)

end Sys2Proof.Machine
end

