-- ==== Sys2Proof/Machine/TimerUnit.lean ====
section
/-! DEFINITION. The timer unit: its bus ports and the operations `EXEC`, `GATE`, `XCLK`
(`43_timers.md` R220 to R250). -/

namespace Sys2Proof.Machine

/-- Only counter and mode ports synchronize (R220, R226, R228). -/
def portSynchronizes : TimerPort → Bool
  | .counter => true
  | .mode => true
  | .target => false
  | .none => false

/-- The state a timer port is observed in: after `Synchronize(pend)` where the port does so (R220). -/
def State.portReady (s : State) (p : TimerPort) (pend : Word) : State :=
  if portSynchronizes p then State.synchronize s pend.toNat else s

/-- `RegRead(i, port)`, the 32-bit value (R222, R224, R226, R228). -/
def timerRegister (t : Timer) : TimerPort → Word
  | .counter => t.counter.setWidth 32
  | .mode => t.mode.setWidth 32
  | .target => t.target.setWidth 32
  | .none => 0xFFFFFFFF

/-- The timer after `RegRead(i, port)`: a mode read clears two flags (R224). -/
def timerAfterRead (t : Timer) : TimerPort → Timer
  | .counter => t
  | .mode => modeReadDone t
  | .target => t
  | .none => t

/-- The timer after `RegWrite(i, port, v)` (R223, R225, R227, R228). -/
def timerAfterWrite (t : Timer) (v : Word) : TimerPort → Timer
  | .counter => { t with counter := v.setWidth 16 }
  | .mode => writeMode t v
  | .target => { t with target := v.setWidth 16 }
  | .none => t

/-- A request to one port of one timer, at offset `off` of its region (R220). -/
def serveTimerPort (i : TimerId) (p : TimerPort) (off : Nat) (x : Access) (s : State) : State :=
  let s := State.portReady s p x.pend
  let t := State.timer s i
  match x.dir with
  | .read =>
    State.served (State.setTimer s i (timerAfterRead t p)) x
      (laneRead x.size off (timerRegister t p)) 2
  | .write =>
    State.served (State.setTimer s i (timerAfterWrite t (laneWrite x off) p)) x 0 2

/-- `ServeTimers` (R220). -/
def serveTimers (off : Nat) (x : Access) (s : State) : State :=
  serveTimerPort (timerOfOffset (regOff off)) (portOfOffset (regOff off)) off x s

/-- REGION_TIMERS_a, timers 0 and 1 (R220). -/
def execRegionTimersA (low : BitVec 5) (x : Access) (s : State) : Result :=
  .next (guardRequest true low.toNat x (serveTimers low.toNat x) s)

/-- REGION_TIMERS_b, timer 2, offsets from `0x20` (R220). -/
def execRegionTimersB (low : BitVec 4) (x : Access) (s : State) : Result :=
  .next (guardRequest true (0x20 + low.toNat) x (serveTimers (0x20 + low.toNat) x) s)

/-- PORT_T0_COUNTER (R222, R223). -/
def execPortT0Counter (lane : BitVec 2) (x : Access) (s : State) : Result :=
  .next (guardRequest true lane.toNat x (serveTimerPort .t0 .counter lane.toNat x) s)

/-- PORT_T0_MODE (R224, R225). -/
def execPortT0Mode (lane : BitVec 2) (x : Access) (s : State) : Result :=
  .next (guardRequest true lane.toNat x (serveTimerPort .t0 .mode lane.toNat x) s)

/-- PORT_T0_TARGET (R226, R227). -/
def execPortT0Target (lane : BitVec 2) (x : Access) (s : State) : Result :=
  .next (guardRequest true lane.toNat x (serveTimerPort .t0 .target lane.toNat x) s)

/-- PORT_T0_NONE (R228). -/
def execPortT0None (lane : BitVec 2) (x : Access) (s : State) : Result :=
  .next (guardRequest true lane.toNat x (serveTimerPort .t0 .none lane.toNat x) s)

/-- PORT_T1_COUNTER (R222, R223). -/
def execPortT1Counter (lane : BitVec 2) (x : Access) (s : State) : Result :=
  .next (guardRequest true lane.toNat x (serveTimerPort .t1 .counter lane.toNat x) s)

/-- PORT_T1_MODE (R224, R225). -/
def execPortT1Mode (lane : BitVec 2) (x : Access) (s : State) : Result :=
  .next (guardRequest true lane.toNat x (serveTimerPort .t1 .mode lane.toNat x) s)

/-- PORT_T1_TARGET (R226, R227). -/
def execPortT1Target (lane : BitVec 2) (x : Access) (s : State) : Result :=
  .next (guardRequest true lane.toNat x (serveTimerPort .t1 .target lane.toNat x) s)

/-- PORT_T1_NONE (R228). -/
def execPortT1None (lane : BitVec 2) (x : Access) (s : State) : Result :=
  .next (guardRequest true lane.toNat x (serveTimerPort .t1 .none lane.toNat x) s)

/-- PORT_T2_COUNTER (R222, R223). -/
def execPortT2Counter (lane : BitVec 2) (x : Access) (s : State) : Result :=
  .next (guardRequest true lane.toNat x (serveTimerPort .t2 .counter lane.toNat x) s)

/-- PORT_T2_MODE (R224, R225). -/
def execPortT2Mode (lane : BitVec 2) (x : Access) (s : State) : Result :=
  .next (guardRequest true lane.toNat x (serveTimerPort .t2 .mode lane.toNat x) s)

/-- PORT_T2_TARGET (R226, R227). -/
def execPortT2Target (lane : BitVec 2) (x : Access) (s : State) : Result :=
  .next (guardRequest true lane.toNat x (serveTimerPort .t2 .target lane.toNat x) s)

/-- PORT_T2_NONE (R228). -/
def execPortT2None (lane : BitVec 2) (x : Access) (s : State) : Result :=
  .next (guardRequest true lane.toNat x (serveTimerPort .t2 .none lane.toNat x) s)

/-- EXEC (R240): `Execute(n)` for `n` below 2^31, else a reserved value (R106). -/
def execExec (ticks : Word) (s : State) : Result :=
  if ticks.getLsbD 31 then .next (State.refuse s .reservedOp)
  else .next (State.done (State.execute s ticks.toNat))

/-- GATE (R230): `SetGate(timer, level[0])` for timers 0 to 2, else a reserved value (R106). -/
def execGate (timer level : Word) (s : State) : Result :=
  match timerOfOperand timer with
  | none => .next (State.refuse s .reservedOp)
  | some i => .next (State.done (State.setTimer s i (setGate (State.timer s i) (level.getLsbD 0))))

/-- XCLK (R243): pulses for timer 0 or 1, discarded unless it counts on its external clock; other
timers and counts of 2^31 or more are reserved values (R106). -/
def execXclk (timer pulses : Word) (s : State) : Result :=
  match timerOfOperand timer with
  | none => .next (State.refuse s .reservedOp)
  | some .t2 => .next (State.refuse s .reservedOp)
  | some i =>
    if pulses.getLsbD 31 then .next (State.refuse s .reservedOp)
    else if externalCounting i (State.timer s i) then
      .next (State.done (State.addTicks s i pulses.toNat))
    else .next (State.done s)

end Sys2Proof.Machine
end

