-- ==== Sys2Proof/Machine/BusRequests.lean ====
section
/-! DEFINITION. The six bus operations `RB RH RW WB WH WW` (`40_bus_access.md` R120, R153 to R159). -/

namespace Sys2Proof.Machine

/-- `Serve[region]` (R63, last column). -/
def serveRegion (r : Region) (off : Nat) (x : Access) (s : State) : State :=
  match r with
  | .ram => serveRam off x s
  | .exp1 => serveExp1 off x s
  | .scratchpad => serveScratch off x s
  | .memctrl => serveMemctrl off x s
  | .pad => servePad off x s
  | .sio => serveSio off x s
  | .memctrl2 => serveMemctrl2 off x s
  | .intc => serveLanes .intc off x s
  | .dma => serveLanes .dma off x s
  | .timers => serveTimers off x s
  | .cdrom => serveCdrom off x s
  | .gpu => serveWordPort .gpu off x s
  | .mdec => serveWordPort .mdec off x s
  | .spu => serveSpu off x s
  | .exp2 => serveExp2 off x s
  | .bios => serveBios off x s

/-- `Request(type, size, a, b, pend)` (R120); an address in no region is an invalid access (R155). -/
def request (a : Word) (x : Access) (s : State) : State :=
  match decodePhys (physAddr a) with
  | some (r, off) => guardRequest (adapted r) (physAddr a) x (serveRegion r off x) s
  | none => guardRequest false (physAddr a) x (fun s => State.invalid s x) s

/-- RB (R153). -/
def execRb (a pend : Word) (s : State) : Result :=
  .next (request a ⟨.read, .byte, 0, pend⟩ s)

/-- RH (R154). -/
def execRh (a pend : Word) (s : State) : Result :=
  .next (request a ⟨.read, .half, 0, pend⟩ s)

/-- RW (R156). -/
def execRw (a pend : Word) (s : State) : Result :=
  .next (request a ⟨.read, .word, 0, pend⟩ s)

/-- WB (R157). -/
def execWb (a b pend : Word) (s : State) : Result :=
  .next (request a ⟨.write, .byte, b, pend⟩ s)

/-- WH (R158). -/
def execWh (a b pend : Word) (s : State) : Result :=
  .next (request a ⟨.write, .half, b, pend⟩ s)

/-- WW (R159). -/
def execWw (a b pend : Word) (s : State) : Result :=
  .next (request a ⟨.write, .word, b, pend⟩ s)

end Sys2Proof.Machine
end

