-- ==== Sys2Proof/Machine/HostOps.lean ====
section
/-! DEFINITION. The host operations `RESET PATCH EXPROM SAVE LOAD` (`44_host_ops.md` R270 to R283) and
the two reserved operation codes (`30_encoding.md` R106). -/

namespace Sys2Proof.Machine

/-- RESET (R270, R271): the table of R54. The model's own fields other than the response stay. -/
def execReset (s : State) : Result :=
  if s.platform.biosImage.length = 0x80000 then
    .next
      { State.afterReset s.platform with
        inbox := s.inbox
        payload := s.payload
        saved := s.saved
        answers := s.answers
        collabReads := s.collabReads }
  else .next (State.refuse s .biosLoadFailed)

/-- PATCH (R274, R275): a word of the BIOS, the segment bits of the address ignored. -/
def execPatch (addr value mask : Word) (s : State) : Result :=
  let pa := physAddr addr
  if pa < 0x1FC00000 ∨ 0x1FC80000 ≤ pa ∨ pa % 4 ≠ 0 then .next (State.refuse s .badPatchAddress)
  else .next (State.done { s with bios := patchWord s.bios (pa - 0x1FC00000) value mask })

/-- The `n` bytes of an expansion ROM from index `k` on: those beside the packet, and any value where
there are none (notes/assumptions 9). -/
def romBytes : Nat → Nat → List Byte → List Byte
  | 0, _, _ => []
  | n + 1, k, [] => Config.absentRomByte k :: romBytes n (k + 1) []
  | n + 1, k, b :: rest => b :: romBytes n (k + 1) rest

/-- EXPROM (R277): the bytes beside the packet replace the ROM; more than `0x800000` is a reserved
value (R106). -/
def execExprom (length : Word) (s : State) : Result :=
  if 0x800000 < length.toNat then .next (State.refuse s .reservedOp)
  else .next (State.done { s with exp1Rom := romBytes length.toNat 0 s.payload.bytes })

/-- The snapshot of a state (R282). -/
def State.snapshot (s : State) : Snapshot :=
  { exp1Time := s.exp1Time
    exp2Time := s.exp2Time
    biosTime := s.biosTime
    cdromTime := s.cdromTime
    spuTime := s.spuTime
    ram := ⟨0x200000, s.ram⟩
    bios := ⟨0x80000, s.bios⟩
    memctrl := s.memctrl
    ramSizeReg := s.ramSizeReg
    ttyLine := s.ttyLine
    timers := s.timers
    carry := s.carry
    scratch := ⟨0x400, s.scratch⟩
    downcount := s.downcount }

/-- R282: the snapshot is well formed. The word registers are so by their type; a buffer is so when it
describes exactly its size in canonical form (notes/assumptions 10). -/
def Snapshot.wellFormed (n : Snapshot) : Bool :=
  Image.exactly n.ram 0x200000 && Image.exactly n.bios 0x80000 && Image.exactly n.scratch 0x400
    && decide (n.timers.t0.mode.toNat < 0x2000) && decide (n.timers.t1.mode.toNat < 0x2000)
    && decide (n.timers.t2.mode.toNat < 0x2000) && decide (n.carry ≤ 7)

/-- The state with every component named in R282 at its value in the snapshot (R281). -/
def State.restore (s : State) (n : Snapshot) : State :=
  { s with
    exp1Time := n.exp1Time
    exp2Time := n.exp2Time
    biosTime := n.biosTime
    cdromTime := n.cdromTime
    spuTime := n.spuTime
    ram := n.ram.cells
    bios := n.bios.cells
    memctrl := n.memctrl
    ramSizeReg := n.ramSizeReg
    ttyLine := n.ttyLine
    timers := n.timers
    carry := n.carry
    scratch := n.scratch.cells
    downcount := n.downcount }

/-- SAVE (R280): the snapshot is returned beside the response. -/
def execSave (s : State) : Result :=
  .next (State.done { s with saved := some (State.snapshot s) })

/-- LOAD (R281): the snapshot beside the packet is restored, the tables as saved; a missing or
ill-formed one is refused. -/
def execLoad (s : State) : Result :=
  match s.payload.snapshot with
  | none => .next (State.refuse s .stateMismatch)
  | some n =>
    if Snapshot.wellFormed n then .next (State.done (State.restore s n))
    else .next (State.refuse s .stateMismatch)

/-- RESERVED_3 (R106): answered `Refused(ReservedOp)`. -/
def execReserved3 (s : State) : Result :=
  .next (State.refuse s .reservedOp)

/-- RESERVED_7 (R106): answered `Refused(ReservedOp)`. -/
def execReserved7 (s : State) : Result :=
  .next (State.refuse s .reservedOp)

end Sys2Proof.Machine
end

