-- ==== Sys2Proof/Machine/Dispatch.lean ====
section
/-! DEFINITION. One arm per operation. Segment and mirror bits are dropped here: no rule reads them
(`20_memory.md` R62, R64). -/

namespace Sys2Proof.Machine

def exec (i : Instr) (s : State) : Host.Outcome State Fault Refusal :=
  match i with
  | .rb a pend => Sys2Proof.Machine.execRb a pend s
  | .rh a pend => Sys2Proof.Machine.execRh a pend s
  | .rw a pend => Sys2Proof.Machine.execRw a pend s
  | .reserved3 => Sys2Proof.Machine.execReserved3 s
  | .wb a b pend => Sys2Proof.Machine.execWb a b pend s
  | .wh a b pend => Sys2Proof.Machine.execWh a b pend s
  | .ww a b pend => Sys2Proof.Machine.execWw a b pend s
  | .reserved7 => Sys2Proof.Machine.execReserved7 s
  | .reset => Sys2Proof.Machine.execReset s
  | .exec ticks => Sys2Proof.Machine.execExec ticks s
  | .gate timer level => Sys2Proof.Machine.execGate timer level s
  | .xclk timer pulses => Sys2Proof.Machine.execXclk timer pulses s
  | .patch addr value mask => Sys2Proof.Machine.execPatch addr value mask s
  | .exprom length => Sys2Proof.Machine.execExprom length s
  | .save => Sys2Proof.Machine.execSave s
  | .load => Sys2Proof.Machine.execLoad s
  | .regionRam _ _ off x => Sys2Proof.Machine.execRegionRam off x s
  | .regionExp1 _ low x => Sys2Proof.Machine.execRegionExp1 low x s
  | .regionScratchpad _ low x => Sys2Proof.Machine.execRegionScratchpad low x s
  | .regionMemctrlA _ low x => Sys2Proof.Machine.execRegionMemctrlA low x s
  | .regionMemctrlB _ low x => Sys2Proof.Machine.execRegionMemctrlB low x s
  | .regionPad _ low x => Sys2Proof.Machine.execRegionPad low x s
  | .regionSio _ low x => Sys2Proof.Machine.execRegionSio low x s
  | .regionMemctrl2 _ low x => Sys2Proof.Machine.execRegionMemctrl2 low x s
  | .regionIntc _ low x => Sys2Proof.Machine.execRegionIntc low x s
  | .regionDma _ low x => Sys2Proof.Machine.execRegionDma low x s
  | .regionTimersA _ low x => Sys2Proof.Machine.execRegionTimersA low x s
  | .regionTimersB _ low x => Sys2Proof.Machine.execRegionTimersB low x s
  | .regionCdrom _ low x => Sys2Proof.Machine.execRegionCdrom low x s
  | .regionGpu _ low x => Sys2Proof.Machine.execRegionGpu low x s
  | .regionMdec _ low x => Sys2Proof.Machine.execRegionMdec low x s
  | .regionSpuA _ low x => Sys2Proof.Machine.execRegionSpuA low x s
  | .regionSpuB _ low x => Sys2Proof.Machine.execRegionSpuB low x s
  | .regionExp2 _ low x => Sys2Proof.Machine.execRegionExp2 low x s
  | .regionBios _ low x => Sys2Proof.Machine.execRegionBios low x s
  | .portMemctrl0 _ lane x => Sys2Proof.Machine.execPortMemctrl0 lane x s
  | .portMemctrl1 _ lane x => Sys2Proof.Machine.execPortMemctrl1 lane x s
  | .portMemctrl2 _ lane x => Sys2Proof.Machine.execPortMemctrl2 lane x s
  | .portMemctrl3 _ lane x => Sys2Proof.Machine.execPortMemctrl3 lane x s
  | .portMemctrl4 _ lane x => Sys2Proof.Machine.execPortMemctrl4 lane x s
  | .portMemctrl5 _ lane x => Sys2Proof.Machine.execPortMemctrl5 lane x s
  | .portMemctrl6 _ lane x => Sys2Proof.Machine.execPortMemctrl6 lane x s
  | .portMemctrl7 _ lane x => Sys2Proof.Machine.execPortMemctrl7 lane x s
  | .portMemctrl8 _ lane x => Sys2Proof.Machine.execPortMemctrl8 lane x s
  | .portRamSizeReg _ lane x => Sys2Proof.Machine.execPortRamSizeReg lane x s
  | .portSioStat _ x => Sys2Proof.Machine.execPortSioStat x s
  | .portT0Counter _ lane x => Sys2Proof.Machine.execPortT0Counter lane x s
  | .portT0Mode _ lane x => Sys2Proof.Machine.execPortT0Mode lane x s
  | .portT0Target _ lane x => Sys2Proof.Machine.execPortT0Target lane x s
  | .portT0None _ lane x => Sys2Proof.Machine.execPortT0None lane x s
  | .portT1Counter _ lane x => Sys2Proof.Machine.execPortT1Counter lane x s
  | .portT1Mode _ lane x => Sys2Proof.Machine.execPortT1Mode lane x s
  | .portT1Target _ lane x => Sys2Proof.Machine.execPortT1Target lane x s
  | .portT1None _ lane x => Sys2Proof.Machine.execPortT1None lane x s
  | .portT2Counter _ lane x => Sys2Proof.Machine.execPortT2Counter lane x s
  | .portT2Mode _ lane x => Sys2Proof.Machine.execPortT2Mode lane x s
  | .portT2Target _ lane x => Sys2Proof.Machine.execPortT2Target lane x s
  | .portT2None _ lane x => Sys2Proof.Machine.execPortT2None lane x s
  | .portExp1Ar _ x => Sys2Proof.Machine.execPortExp1Ar x s
  | .portExp2TtyStatus _ x => Sys2Proof.Machine.execPortExp2TtyStatus x s
  | .portExp2TtyData _ x => Sys2Proof.Machine.execPortExp2TtyData x s
  | .portExp2Post _ x => Sys2Proof.Machine.execPortExp2Post x s

end Sys2Proof.Machine
end

