-- ==== Sys2Proof/Machine/Step.lean ====
section
/-! DEFINITION. One step: the oldest presented operation is decoded and performed; with none presented
the block waits (`10_state.md` R23, `00_scope.md` R11; notes/assumptions 1, 2). -/

namespace Sys2Proof.Machine

/-- One step of the block. -/
def step (s : State) : Host.Outcome State Fault Refusal :=
  match s.inbox with
  | [] => .next s
  | p :: rest => exec (operationOf p.carrier) (State.take s p rest)

/-- `s` with an instruction of the table presented before everything else, nothing beside it. -/
def State.withFetchWord (s : State) (nbits w : Nat) : State :=
  { s with inbox := ⟨tableCarrier nbits w, ⟨[], none⟩⟩ :: s.inbox }

end Sys2Proof.Machine
end

