-- ==== Sys2Proof/Safety.lean ====
section
/-! DEFINITION. The terms claims are stated in: legal states (`10_state.md` R50), current timing tables
(R42), the little-endian value of stored bytes (`20_memory.md` R67), the port rows by register, and
sequences of `EXEC`. -/

namespace Sys2Proof.Machine

/-- R30, R50 b: mode bits 15:13 are 0. -/
def Timer.legal (t : Timer) : Bool :=
  decide (t.mode.toNat < 0x2000)

/-- The parameters that are byte contents describe stores of the spec's sizes in canonical form. -/
def Platform.legal (p : Platform) : Bool :=
  Memory.ok p.ramInit 0x200000 && Memory.ok p.scratchInit 0x400
    && Memory.ok p.biosImage.cells p.biosImage.length

/-- The invariants of R50 and the canonical form of the stores (R44 to R47). -/
def State.legal (s : State) : Bool :=
  Memory.ok s.ram 0x200000 && Memory.ok s.scratch 0x400 && Memory.ok s.bios 0x80000
    && decide (s.exp1Rom.length ≤ 0x800000)
    && Timer.legal s.timers.t0 && Timer.legal s.timers.t1 && Timer.legal s.timers.t2
    && decide (s.carry ≤ 7) && Platform.legal s.platform

/-- R42: the three tables are `Calc` of the MEMCTRL registers. -/
def State.tablesCurrent (s : State) : Bool :=
  decide (s.biosTime = calcTimes s.platform.memDelay s.platform.comDelay s.memctrl.biosDelay
      s.memctrl.commonDelay)
    && decide (s.cdromTime = calcTimes s.platform.memDelay s.platform.comDelay s.memctrl.cdromDelay
      s.memctrl.commonDelay)
    && decide (s.spuTime = calcTimes s.platform.memDelay s.platform.comDelay s.memctrl.spuDelay
      s.memctrl.commonDelay)

/-- R67: the bytes from `off` on, least significant first, in the low bits of a word. -/
def littleEndian (rd : Nat → Byte) (off : Nat) : Size → Word
  | .byte => (rd off).setWidth 32
  | .half => (rd (off + 1) ++ rd off).setWidth 32
  | .word => rd (off + 3) ++ rd (off + 2) ++ rd (off + 1) ++ rd off

/-- Byte `k` of a value (R67). -/
def byteOf (v : Word) (k : Nat) : Byte :=
  v.extractLsb' (8 * k) 8

/-- The port row of a MEMCTRL register (R101). -/
def memctrlPort (r : McReg) (seg : BitVec 3) (lane : BitVec 2) (x : Access) : Instr :=
  match r with
  | .exp1Base => .portMemctrl0 seg lane x
  | .exp2Base => .portMemctrl1 seg lane x
  | .exp1Delay => .portMemctrl2 seg lane x
  | .exp3Delay => .portMemctrl3 seg lane x
  | .biosDelay => .portMemctrl4 seg lane x
  | .spuDelay => .portMemctrl5 seg lane x
  | .cdromDelay => .portMemctrl6 seg lane x
  | .exp2Delay => .portMemctrl7 seg lane x
  | .commonDelay => .portMemctrl8 seg lane x

/-- The port row of a timer's port (R101). -/
def timerPort (i : TimerId) (p : TimerPort) (seg : BitVec 3) (lane : BitVec 2) (x : Access) : Instr :=
  match i, p with
  | .t0, .counter => .portT0Counter seg lane x
  | .t0, .mode => .portT0Mode seg lane x
  | .t0, .target => .portT0Target seg lane x
  | .t0, .none => .portT0None seg lane x
  | .t1, .counter => .portT1Counter seg lane x
  | .t1, .mode => .portT1Mode seg lane x
  | .t1, .target => .portT1Target seg lane x
  | .t1, .none => .portT1None seg lane x
  | .t2, .counter => .portT2Counter seg lane x
  | .t2, .mode => .portT2Mode seg lane x
  | .t2, .target => .portT2Target seg lane x
  | .t2, .none => .portT2None seg lane x

/-- The `pend` operand of a bus request; 0 for a sideband operation (R93). -/
def Instr.pend : Instr → Word
  | .rb _ pend => pend
  | .rh _ pend => pend
  | .rw _ pend => pend
  | .reserved3 => 0
  | .wb _ _ pend => pend
  | .wh _ _ pend => pend
  | .ww _ _ pend => pend
  | .reserved7 => 0
  | .reset => 0
  | .exec _ => 0
  | .gate _ _ => 0
  | .xclk _ _ => 0
  | .patch _ _ _ => 0
  | .exprom _ => 0
  | .save => 0
  | .load => 0
  | .regionRam _ _ _ x => x.pend
  | .regionExp1 _ _ x => x.pend
  | .regionScratchpad _ _ x => x.pend
  | .regionMemctrlA _ _ x => x.pend
  | .regionMemctrlB _ _ x => x.pend
  | .regionPad _ _ x => x.pend
  | .regionSio _ _ x => x.pend
  | .regionMemctrl2 _ _ x => x.pend
  | .regionIntc _ _ x => x.pend
  | .regionDma _ _ x => x.pend
  | .regionTimersA _ _ x => x.pend
  | .regionTimersB _ _ x => x.pend
  | .regionCdrom _ _ x => x.pend
  | .regionGpu _ _ x => x.pend
  | .regionMdec _ _ x => x.pend
  | .regionSpuA _ _ x => x.pend
  | .regionSpuB _ _ x => x.pend
  | .regionExp2 _ _ x => x.pend
  | .regionBios _ _ x => x.pend
  | .portMemctrl0 _ _ x => x.pend
  | .portMemctrl1 _ _ x => x.pend
  | .portMemctrl2 _ _ x => x.pend
  | .portMemctrl3 _ _ x => x.pend
  | .portMemctrl4 _ _ x => x.pend
  | .portMemctrl5 _ _ x => x.pend
  | .portMemctrl6 _ _ x => x.pend
  | .portMemctrl7 _ _ x => x.pend
  | .portMemctrl8 _ _ x => x.pend
  | .portRamSizeReg _ _ x => x.pend
  | .portSioStat _ x => x.pend
  | .portT0Counter _ _ x => x.pend
  | .portT0Mode _ _ x => x.pend
  | .portT0Target _ _ x => x.pend
  | .portT0None _ _ x => x.pend
  | .portT1Counter _ _ x => x.pend
  | .portT1Mode _ _ x => x.pend
  | .portT1Target _ _ x => x.pend
  | .portT1None _ _ x => x.pend
  | .portT2Counter _ _ x => x.pend
  | .portT2Mode _ _ x => x.pend
  | .portT2Target _ _ x => x.pend
  | .portT2None _ _ x => x.pend
  | .portExp1Ar _ x => x.pend
  | .portExp2TtyStatus _ x => x.pend
  | .portExp2TtyData _ x => x.pend
  | .portExp2Post _ x => x.pend

/-- The operations in turn, stopping at the first that does not answer a next state. -/
def execAll : List Instr → State → Result
  | [], s => .next s
  | i :: is, s =>
    match exec i s with
    | .next t => execAll is t
    | .fault f => .fault f
    | .refused r => .refused r

/-- `EXEC` of each tick count in turn. -/
def execEach (ns : List Word) (s : State) : Result :=
  execAll (ns.map .exec) s

/-- The sum of tick counts. -/
def totalTicks (ns : List Word) : Nat :=
  (ns.map BitVec.toNat).sum

/-- No tick count carries a counter at `c` past the target `T`, the counter starting again from 0 when
it reaches it (R252). -/
def withinTarget (T : Nat) : Nat → List Word → Prop
  | _, [] => True
  | c, n :: ns => n.toNat ≤ T - c ∧ withinTarget T ((c + n.toNat) % T) ns

/-- How often an interrupt id was requested in a trace (R300). -/
def irqCount (id : Nat) (trace : List Event) : Nat :=
  trace.count (.irq id)

/-- R37 in mode bits: `clock_source` is bits 9:8, and timer 2 reads its upper bit. -/
def externalByTable (i : TimerId) (t : Timer) : Bool :=
  match i with
  | .t0 => t.mode.getLsbD 8
  | .t1 => t.mode.getLsbD 8
  | .t2 => t.mode.getLsbD 9

/-- R38 in mode bits: `sync_enable` is bit 0, `sync_mode` bits 2:1. Without sync a timer counts; mode 0
counts while the gate is low, mode 1 always, modes 2 and 3 while it is high. -/
def countsByTable (t : Timer) : Bool :=
  match t.mode.getLsbD 0, t.mode.getLsbD 2, t.mode.getLsbD 1 with
  | false, _, _ => true
  | true, false, false => !t.gate
  | true, false, true => true
  | true, true, false => t.gate
  | true, true, true => t.gate

/-- The ticks `Execute(n)` gives a timer, none if it does not advance it (R240, R242). -/
def ticksReceived (s : State) (n : Nat) : TimerId → Option Nat
  | .t0 => if countsByTable s.timers.t0 && !externalByTable .t0 s.timers.t0 then some n else none
  | .t1 => if countsByTable s.timers.t1 && !externalByTable .t1 s.timers.t1 then some n else none
  | .t2 =>
    if !countsByTable s.timers.t2 then none
    else if externalByTable .t2 s.timers.t2 then some ((n + s.carry) / 8)
    else some n

/-- A timer after the ticks it receives. -/
def advanced (t : Timer) : Option Nat → Timer
  | none => t
  | some k => (addTicks t k).1

/-- The interrupt request of a timer that receives ticks, as a list of no or one event (R246). -/
def requested (p : Platform) (i : TimerId) (t : Timer) : Option Nat → List Event
  | none => []
  | some k => if (addTicks t k).2 then [.irq (p.irqTmr0 + timerIndex i)] else []

/-- The timers after `Execute(n)`. -/
def timersAfter (s : State) (n : Nat) : Timers :=
  { t0 := advanced s.timers.t0 (ticksReceived s n .t0)
    t1 := advanced s.timers.t1 (ticksReceived s n .t1)
    t2 := advanced s.timers.t2 (ticksReceived s n .t2) }

/-- The carry after `Execute(n)` (R40, R242). -/
def carryAfter (s : State) (n : Nat) : Nat :=
  if countsByTable s.timers.t2 && externalByTable .t2 s.timers.t2 then (n + s.carry) % 8 else s.carry

/-- The events of `Execute(n)` in order (R240, R302). -/
def executeEvents (s : State) (n : Nat) : List Event :=
  requested s.platform .t0 s.timers.t0 (ticksReceived s n .t0)
    ++ requested s.platform .t1 s.timers.t1 (ticksReceived s n .t1)
    ++ requested s.platform .t2 s.timers.t2 (ticksReceived s n .t2)
    ++ [.setDowncount (computeDowncount s.platform.downcountNone (timersAfter s n))]

/-- The state after `Execute(n)` (R240). -/
def executed (s : State) (n : Nat) : State :=
  { s with
    timers := timersAfter s n
    carry := carryAfter s n
    downcount := computeDowncount s.platform.downcountNone (timersAfter s n)
    trace := s.trace ++ executeEvents s n }

/-- The state a counter or mode port is observed in (R250). -/
def synchronized (s : State) (pend : Nat) : State :=
  if pend = 0 then { s with trace := s.trace ++ [.synchronize] }
  else executed { s with trace := s.trace ++ [.synchronize] } pend

/-- The state of a refused operation: nothing but the response changes (R295). -/
def refusedWith (r : RefuseReason) (s : State) : State :=
  { s with response := ⟨.refused r, 0, 0⟩ }

/-- `ones(size)` (R13). -/
def onesOf : Size → Word
  | .byte => 0xFF
  | .half => 0xFFFF
  | .word => 0xFFFFFFFF

/-- The state of an invalid access: nothing but the response changes (R155, R291). -/
def invalidFor (dir : Dir) (size : Size) (s : State) : State :=
  { s with response := ⟨.invalid, (match dir with | .read => onesOf size | .write => 0), 1⟩ }

/-- `after` holds the low `n` bytes of `v` from `off` on and is otherwise `before`, byte for byte (R67). -/
def StoredInto (before after : Memory) (off : Nat) (v : Word) (n : Nat) : Prop :=
  Memory.wf after = true ∧
    (∀ k, k < n → Memory.read after (off + k) = byteOf v k) ∧
    ∀ a, a < off ∨ off + n ≤ a → Memory.read after a = Memory.read before a

/-- The number of a timer's port: its offset in the register group over 4 (R98). -/
def portIndex : TimerPort → Nat
  | .counter => 0
  | .mode => 1
  | .target => 2
  | .none => 3

/-- The state after a 32-bit value is written to a MEMCTRL register (R161). -/
def memctrlWritten (s : State) (r : McReg) (v : Word) : State :=
  let old := MemCtrl.get s.memctrl r
  let mask := MemCtrl.get s.platform.wmask r
  let new := (old &&& ~~~mask) ||| (v &&& mask)
  let m := MemCtrl.set s.memctrl r new
  if new = old then s
  else
    { s with
      memctrl := m
      biosTime := calcTimes s.platform.memDelay s.platform.comDelay m.biosDelay m.commonDelay
      cdromTime := calcTimes s.platform.memDelay s.platform.comDelay m.cdromDelay m.commonDelay
      spuTime := calcTimes s.platform.memDelay s.platform.comDelay m.spuDelay m.commonDelay }

/-- The state after a forwarded read: its event is logged and one answer is used up (R52, R194). -/
def forwardedRead (s : State) (c : Collab) (off : Nat) (size : Size) : State :=
  { s with
    trace := s.trace ++ [.collabRead c off size]
    answers := s.answers.tail
    collabReads := s.collabReads + 1 }

/-- The state after a forwarded write: its event is logged (R194). -/
def forwardedWrite (s : State) (c : Collab) (off : Nat) (size : Size) (v : Word) : State :=
  { s with trace := s.trace ++ [.collabWrite c off size v] }

/-- The components of two states that a snapshot holds are equal (R282). -/
def SameSnapshot (s t : State) : Prop :=
  s.exp1Time = t.exp1Time ∧ s.exp2Time = t.exp2Time ∧ s.biosTime = t.biosTime ∧
    s.cdromTime = t.cdromTime ∧ s.spuTime = t.spuTime ∧ s.ram = t.ram ∧ s.bios = t.bios ∧
    s.memctrl = t.memctrl ∧ s.ramSizeReg = t.ramSizeReg ∧ s.ttyLine = t.ttyLine ∧
    s.timers = t.timers ∧ s.carry = t.carry ∧ s.scratch = t.scratch ∧ s.downcount = t.downcount

/-- The read packet of a size: `RB`, `RH` or `RW` (R92). -/
def readPacket : Size → Word → Word → Instr
  | .byte => .rb
  | .half => .rh
  | .word => .rw

/-- The write packet of a size: `WB`, `WH` or `WW` (R92). -/
def writePacket : Size → Word → Word → Word → Instr
  | .byte => .wb
  | .half => .wh
  | .word => .ww

/-- The physical addresses of no region, as R65 lists them. -/
def Unmapped (pa : Nat) : Prop :=
  (0x00800000 ≤ pa ∧ pa ≤ 0x1EFFFFFF) ∨ (0x1F800400 ≤ pa ∧ pa ≤ 0x1F800FFF) ∨
    (0x1F801024 ≤ pa ∧ pa ≤ 0x1F80103F) ∨ (0x1F801064 ≤ pa ∧ pa ≤ 0x1F80106F) ∨
    (0x1F801078 ≤ pa ∧ pa ≤ 0x1F80107F) ∨ (0x1F801130 ≤ pa ∧ pa ≤ 0x1F8017FF) ∨
    (0x1F801804 ≤ pa ∧ pa ≤ 0x1F80180F) ∨ (0x1F801818 ≤ pa ∧ pa ≤ 0x1F80181F) ∨
    (0x1F801828 ≤ pa ∧ pa ≤ 0x1F801BFF) ∨ (0x1F801E80 ≤ pa ∧ pa ≤ 0x1F801FFF) ∨
    (0x1F804000 ≤ pa ∧ pa ≤ 0x1FBFFFFF) ∨ (0x1FC80000 ≤ pa ∧ pa ≤ 0x1FFFFFFF)

/-- The physical addresses of the adapted regions MEMCTRL, MEMCTRL2, INTC, DMA, TIMERS (R63, R71). -/
def Adapted (pa : Nat) : Prop :=
  (0x1F801000 ≤ pa ∧ pa < 0x1F801024) ∨ (0x1F801060 ≤ pa ∧ pa < 0x1F801064) ∨
    (0x1F801070 ≤ pa ∧ pa < 0x1F801078) ∨ (0x1F801080 ≤ pa ∧ pa < 0x1F801130)

/-- The state after a character is written to the TTY port (R150). -/
def ttyTyped (s : State) (ch : Byte) : State :=
  if ch = 0x0D then s
  else if ch = 0x0A then { s with ttyLine := [], trace := s.trace ++ [.ttyLine s.ttyLine] }
  else { s with ttyLine := s.ttyLine ++ [ch] }

/-- The index of a MEMCTRL register (R25). -/
def mcIndex : McReg → Nat
  | .exp1Base => 0
  | .exp2Base => 1
  | .exp1Delay => 2
  | .exp3Delay => 3
  | .biosDelay => 4
  | .spuDelay => 5
  | .cdromDelay => 6
  | .exp2Delay => 7
  | .commonDelay => 8

/-- A horizon some timer offers to the downcount (R248): its timer counts, is not timer 0 or 1 on an
external clock, and is below its target. -/
def Candidate (ts : Timers) (d : Nat) : Prop :=
  ∃ (i : TimerId) (m : Nat),
    countsByTable (Timers.get ts i) = true ∧
    (i ≠ .t2 → externalByTable i (Timers.get ts i) = false) ∧
    (Timers.get ts i).counter.toNat < (Timers.get ts i).target.toNat ∧
    (((Timers.get ts i).mode.getLsbD 4 = true ∧
        m = (Timers.get ts i).target.toNat - (Timers.get ts i).counter.toNat) ∨
      ((Timers.get ts i).mode.getLsbD 5 = true ∧ m = 0xFFFF - (Timers.get ts i).counter.toNat)) ∧
    d = if i = .t2 ∧ externalByTable .t2 (Timers.get ts i) = true then max 1 (m / 8) else m

/-- The address is that of a timer counter or mode port (R98, R220). -/
def syncAddress (a : Word) : Bool :=
  let pa := a.toNat % 0x20000000
  decide (0x1F801100 ≤ pa) && decide (pa < 0x1F801130) && decide (pa % 16 < 8)

/-- The operation is a bus request to a timer counter or mode port (R220, R301). -/
def Instr.synchronizes : Instr → Bool
  | .rb a _ => syncAddress a
  | .rh a _ => syncAddress a
  | .rw a _ => syncAddress a
  | .reserved3 => false
  | .wb a _ _ => syncAddress a
  | .wh a _ _ => syncAddress a
  | .ww a _ _ => syncAddress a
  | .reserved7 => false
  | .reset => false
  | .exec _ => false
  | .gate _ _ => false
  | .xclk _ _ => false
  | .patch _ _ _ => false
  | .exprom _ => false
  | .save => false
  | .load => false
  | .regionRam _ _ _ _ => false
  | .regionExp1 _ _ _ => false
  | .regionScratchpad _ _ _ => false
  | .regionMemctrlA _ _ _ => false
  | .regionMemctrlB _ _ _ => false
  | .regionPad _ _ _ => false
  | .regionSio _ _ _ => false
  | .regionMemctrl2 _ _ _ => false
  | .regionIntc _ _ _ => false
  | .regionDma _ _ _ => false
  | .regionTimersA _ low _ => decide (low.toNat % 16 < 8)
  | .regionTimersB _ low _ => decide (low.toNat % 16 < 8)
  | .regionCdrom _ _ _ => false
  | .regionGpu _ _ _ => false
  | .regionMdec _ _ _ => false
  | .regionSpuA _ _ _ => false
  | .regionSpuB _ _ _ => false
  | .regionExp2 _ _ _ => false
  | .regionBios _ _ _ => false
  | .portMemctrl0 _ _ _ => false
  | .portMemctrl1 _ _ _ => false
  | .portMemctrl2 _ _ _ => false
  | .portMemctrl3 _ _ _ => false
  | .portMemctrl4 _ _ _ => false
  | .portMemctrl5 _ _ _ => false
  | .portMemctrl6 _ _ _ => false
  | .portMemctrl7 _ _ _ => false
  | .portMemctrl8 _ _ _ => false
  | .portRamSizeReg _ _ _ => false
  | .portSioStat _ _ => false
  | .portT0Counter _ _ _ => true
  | .portT0Mode _ _ _ => true
  | .portT0Target _ _ _ => false
  | .portT0None _ _ _ => false
  | .portT1Counter _ _ _ => true
  | .portT1Mode _ _ _ => true
  | .portT1Target _ _ _ => false
  | .portT1None _ _ _ => false
  | .portT2Counter _ _ _ => true
  | .portT2Mode _ _ _ => true
  | .portT2Target _ _ _ => false
  | .portT2None _ _ _ => false
  | .portExp1Ar _ _ => false
  | .portExp2TtyStatus _ _ => false
  | .portExp2TtyData _ _ => false
  | .portExp2Post _ _ => false

/-- The address is that of the mode port of a timer, at any lane (R98, R101). -/
def modeAddress (i : TimerId) (a : Word) : Bool :=
  decide (a.toNat % 0x20000000 / 4 = 0x1F801104 / 4 + 4 * timerIndex i)

/-- The operation is a write of the mode port of timer `i` (R225). -/
def Instr.writesMode (i : TimerId) : Instr → Bool
  | .rb _ _ => false
  | .rh _ _ => false
  | .rw _ _ => false
  | .reserved3 => false
  | .wb a _ _ => modeAddress i a
  | .wh a _ _ => modeAddress i a
  | .ww a _ _ => modeAddress i a
  | .reserved7 => false
  | .reset => false
  | .exec _ => false
  | .gate _ _ => false
  | .xclk _ _ => false
  | .patch _ _ _ => false
  | .exprom _ => false
  | .save => false
  | .load => false
  | .regionRam _ _ _ _ => false
  | .regionExp1 _ _ _ => false
  | .regionScratchpad _ _ _ => false
  | .regionMemctrlA _ _ _ => false
  | .regionMemctrlB _ _ _ => false
  | .regionPad _ _ _ => false
  | .regionSio _ _ _ => false
  | .regionMemctrl2 _ _ _ => false
  | .regionIntc _ _ _ => false
  | .regionDma _ _ _ => false
  | .regionTimersA _ low x => decide (x.dir = .write) && decide (low.toNat / 4 = 4 * timerIndex i + 1)
  | .regionTimersB _ low x =>
    decide (x.dir = .write) && decide ((0x20 + low.toNat) / 4 = 4 * timerIndex i + 1)
  | .regionCdrom _ _ _ => false
  | .regionGpu _ _ _ => false
  | .regionMdec _ _ _ => false
  | .regionSpuA _ _ _ => false
  | .regionSpuB _ _ _ => false
  | .regionExp2 _ _ _ => false
  | .regionBios _ _ _ => false
  | .portMemctrl0 _ _ _ => false
  | .portMemctrl1 _ _ _ => false
  | .portMemctrl2 _ _ _ => false
  | .portMemctrl3 _ _ _ => false
  | .portMemctrl4 _ _ _ => false
  | .portMemctrl5 _ _ _ => false
  | .portMemctrl6 _ _ _ => false
  | .portMemctrl7 _ _ _ => false
  | .portMemctrl8 _ _ _ => false
  | .portRamSizeReg _ _ _ => false
  | .portSioStat _ _ => false
  | .portT0Counter _ _ _ => false
  | .portT0Mode _ _ x => decide (i = .t0) && decide (x.dir = .write)
  | .portT0Target _ _ _ => false
  | .portT0None _ _ _ => false
  | .portT1Counter _ _ _ => false
  | .portT1Mode _ _ x => decide (i = .t1) && decide (x.dir = .write)
  | .portT1Target _ _ _ => false
  | .portT1None _ _ _ => false
  | .portT2Counter _ _ _ => false
  | .portT2Mode _ _ x => decide (i = .t2) && decide (x.dir = .write)
  | .portT2Target _ _ _ => false
  | .portT2None _ _ _ => false
  | .portExp1Ar _ _ => false
  | .portExp2TtyStatus _ _ => false
  | .portExp2TtyData _ _ => false
  | .portExp2Post _ _ => false

end Sys2Proof.Machine
end

