-- ==== Sys2Proof/Certificates/Slice0/Obligations.lean ====
section
/-! DEFINITION. The statements about the model, for the provers. Each docstring names the rules of spec/
it formalises; the terms used are those of `Sys2Proof/Safety.lean`. Every statement holds for every
value of the open parameters, which are a field of the state no operation changes. -/

open Sys2Proof Sys2Proof.Machine

/-- Decoding the carrier of any operation gives the operation back (R91, R92, R100, R101, R102,
30_encoding.md). The layout of an address form's other operands is the model's choice
(notes/assumptions 2). -/
def Obligations.DecodeEncodeRoundTrip : Prop :=
  ∀ i : Instr, decode (encode i) = .ok i

/-- The sixteen operation codes name the sixteen packet operations, operands in place (R91, R92). -/
def Obligations.PacketOperationCodes : Prop :=
  ∀ a b c : Word,
    decode (packetForm 0x0 a b c) = .ok (.rb a c) ∧ decode (packetForm 0x1 a b c) = .ok (.rh a c) ∧
    decode (packetForm 0x2 a b c) = .ok (.rw a c) ∧ decode (packetForm 0x3 a b c) = .ok .reserved3 ∧
    decode (packetForm 0x4 a b c) = .ok (.wb a b c) ∧ decode (packetForm 0x5 a b c) = .ok (.wh a b c) ∧
    decode (packetForm 0x6 a b c) = .ok (.ww a b c) ∧ decode (packetForm 0x7 a b c) = .ok .reserved7 ∧
    decode (packetForm 0x8 a b c) = .ok .reset ∧ decode (packetForm 0x9 a b c) = .ok (.exec a) ∧
    decode (packetForm 0xA a b c) = .ok (.gate a b) ∧ decode (packetForm 0xB a b c) = .ok (.xclk a b) ∧
    decode (packetForm 0xC a b c) = .ok (.patch a b c) ∧ decode (packetForm 0xD a b c) = .ok (.exprom a) ∧
    decode (packetForm 0xE a b c) = .ok .save ∧ decode (packetForm 0xF a b c) = .ok .load

/-- Words written out from the spec decode to the operations they stand for (R91, R92, R100, R101,
30_encoding.md). Reading an address word of the table as a byte read is the model's choice
(notes/assumptions 2). -/
def Obligations.SampleWordsDecode : Prop :=
  decodeTableWord 100 0x61F8011040000005800000000 = some (.ww 0x1F801104 0x58 0) ∧
    decodeTableWord 100 0xB0000000100000107DEADBEEF = some (.xclk 1 263) ∧
    decodeTableWord 32 0xBF801814 = some (.regionGpu 5 4 ⟨.read, .byte, 0, 0⟩) ∧
    decodeTableWord 32 0x1F80112B = some (.portT2Target 0 3 ⟨.read, .byte, 0, 0⟩) ∧
    decodeTableWord 32 0x1F801030 = none

/-- Exactly the address holes R65 lists are in no region (R65). -/
def Obligations.UnmappedAddresses : Prop :=
  ∀ (a : Word) (x : Access),
    (decodePhys (physAddr a) = none ↔ Unmapped (a.toNat % 0x20000000)) ∧
      (decodeRegion a x = .error .noRegionRow ↔ Unmapped (a.toNat % 0x20000000))

/-- A bus request packet does exactly what the region row of its address does (R63, R95, R100, R102,
R120). -/
def Obligations.PacketServesItsRow : Prop :=
  ∀ (a : Word) (x : Access) (i : Instr) (s : State),
    decodeRegion a x = .ok i → exec (decodePacket (busOp x.dir x.size) a x.value x.pend) s = exec i s

/-- Every port row lies inside a region row and does what that row does at its address (R98, R101,
R102). -/
def Obligations.PortRowsServeTheirRegion : Prop :=
  ∀ (a : Word) (x : Access) (j : Instr) (s : State),
    decodePort a x = .ok j → ∃ i, decodeRegion a x = .ok i ∧ exec i s = exec j s

/-- Bus requests to addresses equal below bit 29 have the same outcome (R62, R120, R305). -/
def Obligations.SegmentBitsNeverMatter : Prop :=
  ∀ (a a' b c : Word) (size : Size) (s : State),
    a.toNat % 0x20000000 = a'.toNat % 0x20000000 →
      exec (readPacket size a c) s = exec (readPacket size a' c) s ∧
      exec (writePacket size a b c) s = exec (writePacket size a' b c) s ∧
      exec (.patch a b c) s = exec (.patch a' b c) s

/-- A word written to RAM is read back whole and in parts through every mirror and segment (R64, R67,
R68, R76). -/
def Obligations.RamRoundTripThroughMirrors : Prop :=
  ∀ (a a' v pend pend' : Word) (s : State),
    Memory.wf s.ram = true → pend.getLsbD 31 = false → pend'.getLsbD 31 = false →
    a.toNat % 0x20000000 < 0x800000 → a'.toNat % 0x20000000 < 0x800000 →
    a.toNat % 0x200000 = a'.toNat % 0x200000 → a.toNat % 4 = 0 →
      ∃ t, exec (.ww a v pend) s = .next t ∧
        exec (.rw a' pend') t = .next { t with response := ⟨.ok, v, 4⟩ } ∧
        (∀ k, k < 4 → exec (.rb (a' + BitVec.ofNat 32 k) pend') t =
          .next { t with response := ⟨.ok, (byteOf v k).setWidth 32, 4⟩ }) ∧
        exec (.rh (a' + 2) pend') t = .next { t with response := ⟨.ok, v >>> 16, 4⟩ }

/-- A step performs the operation the oldest presented carrier decodes to (R11, R91, R102). The inbox is
the model's choice (notes/assumptions 1). -/
def Obligations.StepRunsDecoded : Prop :=
  ∀ (s : State) (p : Presented) (rest : List Presented) (i : Instr),
    s.inbox = p :: rest → decode p.carrier = .ok i →
      step s = exec i { s with inbox := rest, payload := p.payload }

/-- Every step answers: with nothing presented it changes nothing, and an address in no row is still
served (R23, R102, R103, R155, R290). The inbox and the address forms are the model's choices
(notes/assumptions 1, 2). -/
def Obligations.StepWaitsOrAnswers : Prop :=
  (∀ s : State, s.inbox = [] → step s = .next s) ∧
    (∀ (s : State) (p : Presented) (rest : List Presented) (e : DecodeError),
      s.inbox = p :: rest → decode p.carrier = .error e →
        step s = exec (rowlessPacket p.carrier) { s with inbox := rest, payload := p.payload }) ∧
    (∀ (a : Word) (x : Access) (q : Payload) (rest : List Presented) (s : State),
      s.inbox = ⟨addressForm .region a x, q⟩ :: rest → x.pend.getLsbD 31 = false →
      Unmapped (a.toNat % 0x20000000) → a.toNat % nbytes x.size = 0 →
        step s = .next (invalidFor x.dir x.size { s with inbox := rest, payload := q })) ∧
    ∀ s : State, ∃ t, step s = .next t

/-- Every operation answers; a refusal or an invalid access changes nothing but the response (R290,
R291, R295, R303). That a refused or invalid operation is a next state is the model's reading
(notes/assumptions 3). -/
def Obligations.EveryOperationAnswers : Prop :=
  ∀ (i : Instr) (s : State), ∃ t, exec i s = .next t ∧
    (∀ r, t.response.status = .refused r → t = refusedWith r s) ∧
    (t.response.status = .invalid → t = { s with response := t.response } ∧ t.response.ticks = 1)

/-- Every 100-bit packet is an operation, so a step that takes a packet answers (R92, R290). The inbox
is the model's choice (notes/assumptions 1). -/
def Obligations.PacketStepsNeverStop : Prop :=
  ∀ (s : State) (p : Presented) (rest : List Presented),
    s.inbox = p :: rest → p.carrier.form = .packet → ∃ t, step s = .next t ∧ t.inbox = rest

/-- The state after reset meets the invariants (R50, R54, R42). The parameters at reset are the model's
choices (notes/assumptions 5, 6, 7). -/
def Obligations.ResetStateLegal : Prop :=
  State.legal State.reset = true ∧ State.tablesCurrent State.reset = true

/-- Every step keeps the invariants of R50 and the canonical form of the stores (R30, R40, R44, R45,
R46, R47, R50). The canonical form of the stores is the model's (notes/assumptions 7). -/
def Obligations.StepKeepsLegal : Prop :=
  ∀ s t : State, State.legal s = true → step s = .next t → State.legal t = true

/-- Every operation but LOAD keeps the access-time tables equal to Calc of MEMCTRL (R42, R161, R281). -/
def Obligations.TablesFollowMemctrl : Prop :=
  ∀ (i : Instr) (s t : State),
    i ≠ .load → State.tablesCurrent s = true → exec i s = .next t → State.tablesCurrent t = true

/-- The trace only grows, and interrupt requests come only from EXEC, XCLK and synchronizing requests
(R53, R300, R301). -/
def Obligations.InterruptSources : Prop :=
  ∀ (i : Instr) (s t : State), i ≠ .reset → exec i s = .next t →
    ∃ es, t.trace = s.trace ++ es ∧
      ∀ id, .irq id ∈ es →
        (∃ k, k < 3 ∧ id = s.platform.irqTmr0 + k) ∧
        ((∃ n, i = .exec n) ∨ (∃ k n, i = .xclk k n) ∨
          (Instr.synchronizes i = true ∧ Instr.pend i ≠ 0))

/-- Which operations can change BIOS, the ROM, the gates, the carry, the downcount and the parameters
(R34, R40, R41, R46, R47, R51). That the parameters are a field no operation changes is the model's
choice (notes/assumptions 5). -/
def Obligations.OwnershipOfState : Prop :=
  ∀ (i : Instr) (s t : State), exec i s = .next t →
    ((∀ a v m, i ≠ .patch a v m) → i ≠ .reset → i ≠ .load → t.bios = s.bios) ∧
    ((∀ n, i ≠ .exprom n) → i ≠ .reset → t.exp1Rom = s.exp1Rom) ∧
    ((∀ k l, i ≠ .gate k l) → i ≠ .reset → i ≠ .load →
      ∀ k, (Timers.get t.timers k).gate = (Timers.get s.timers k).gate) ∧
    ((∀ n, i ≠ .exec n) → i ≠ .reset → i ≠ .load →
      (Instr.synchronizes i = false ∨ Instr.pend i = 0) →
        t.carry = s.carry ∧ t.downcount = s.downcount) ∧
    t.platform = s.platform

/-- REGION_RAM reads and writes the little-endian bytes of RAM, 4 ticks, nothing else (R130, R131). -/
def Obligations.RamRows : Prop :=
  ∀ (seg : BitVec 3) (mir : BitVec 2) (off : BitVec 21) (size : Size) (value pend : Word) (s : State),
    pend.getLsbD 31 = false →
      (off.toNat % nbytes size = 0 →
        off.toNat + nbytes size ≤ 0x200000 ∧
        exec (.regionRam seg mir off ⟨.read, size, value, pend⟩) s =
          .next { s with response := ⟨.ok, littleEndian (Memory.read s.ram) off.toNat size, 4⟩ } ∧
        (Memory.wf s.ram = true → ∃ ram',
          exec (.regionRam seg mir off ⟨.write, size, value, pend⟩) s =
            .next { s with ram := ram', response := ⟨.ok, 0, 4⟩ } ∧
          StoredInto s.ram ram' off.toNat value (nbytes size))) ∧
      (off.toNat % nbytes size ≠ 0 → ∀ dir,
        exec (.regionRam seg mir off ⟨dir, size, value, pend⟩) s = .next (refusedWith .misaligned s))

/-- RB RH RW WB WH WW on RAM addresses (R62, R63, R64, R130, R131, R153, R154, R156, R157, R158, R159). -/
def Obligations.RamPackets : Prop :=
  ∀ (a b pend : Word) (size : Size) (s : State),
    pend.getLsbD 31 = false → a.toNat % 0x20000000 < 0x800000 →
      (a.toNat % nbytes size = 0 →
        exec (readPacket size a pend) s =
          .next { s with response := ⟨.ok, littleEndian (Memory.read s.ram) (a.toNat % 0x200000) size, 4⟩ } ∧
        (Memory.wf s.ram = true → ∃ ram',
          exec (writePacket size a b pend) s =
            .next { s with ram := ram', response := ⟨.ok, 0, 4⟩ } ∧
          StoredInto s.ram ram' (a.toNat % 0x200000) b (nbytes size))) ∧
      (a.toNat % nbytes size ≠ 0 →
        exec (readPacket size a pend) s = .next (refusedWith .misaligned s) ∧
        exec (writePacket size a b pend) s = .next (refusedWith .misaligned s))

/-- REGION_SCRATCHPAD reads and writes the little-endian bytes of SCRATCH, 1 tick, nothing else (R133,
R134). -/
def Obligations.ScratchpadRow : Prop :=
  (∀ (seg : BitVec 3) (low : BitVec 10) (size : Size) (value pend : Word) (s : State),
    pend.getLsbD 31 = false →
      (low.toNat % nbytes size = 0 →
        exec (.regionScratchpad seg low ⟨.read, size, value, pend⟩) s =
          .next { s with response := ⟨.ok, littleEndian (Memory.read s.scratch) low.toNat size, 1⟩ } ∧
        (Memory.wf s.scratch = true → ∃ scratch',
          exec (.regionScratchpad seg low ⟨.write, size, value, pend⟩) s =
            .next { s with scratch := scratch', response := ⟨.ok, 0, 1⟩ } ∧
          StoredInto s.scratch scratch' low.toNat value (nbytes size))) ∧
      (low.toNat % nbytes size ≠ 0 → ∀ dir,
        exec (.regionScratchpad seg low ⟨dir, size, value, pend⟩) s = .next (refusedWith .misaligned s))) ∧
    decodePhys 0x1F800400 = none

/-- REGION_BIOS reads at the cost of its table; a write changes nothing (R136, R137). -/
def Obligations.BiosRow : Prop :=
  ∀ (seg : BitVec 3) (low : BitVec 19) (size : Size) (value pend : Word) (s : State),
    pend.getLsbD 31 = false →
      (low.toNat % nbytes size = 0 →
        exec (.regionBios seg low ⟨.read, size, value, pend⟩) s =
          .next { s with response :=
            ⟨.ok, littleEndian (Memory.read s.bios) low.toNat size, s.biosTime.of size⟩ } ∧
        exec (.regionBios seg low ⟨.write, size, value, pend⟩) s =
          .next { s with response := ⟨.ok, 0, s.biosTime.of size⟩ }) ∧
      (low.toNat % nbytes size ≠ 0 → ∀ dir,
        exec (.regionBios seg low ⟨dir, size, value, pend⟩) s = .next (refusedWith .misaligned s))

/-- REGION_EXP1 and PORT_EXP1_AR: ones without a ROM, the sentinel, zero past the end, ROM bytes; writes
ignored (R70, R125, R126, R140, R141, R142, R144). One opaque cost per size, the same for a read and
a write, is the model's choice from R125 and R126 (notes/assumptions 8). -/
def Obligations.Exp1Row : Prop :=
  ∀ (seg : BitVec 3) (low : BitVec 23) (size : Size) (value pend : Word) (s : State),
    pend.getLsbD 31 = false →
      (low.toNat % nbytes size = 0 →
        exec (.regionExp1 seg low ⟨.read, size, value, pend⟩) s =
          .next { s with response := ⟨.ok,
            (if s.exp1Rom.length = 0 then onesOf size
              else if low.toNat = 0x20018 then 1
              else if low.toNat + nbytes size > s.exp1Rom.length then 0
              else littleEndian (fun k => s.exp1Rom.getD k 0) low.toNat size),
            Config.exp1Ticks size⟩ } ∧
        exec (.regionExp1 seg low ⟨.write, size, value, pend⟩) s =
          .next { s with response := ⟨.ok, 0, Config.exp1Ticks size⟩ }) ∧
      (low.toNat % nbytes size ≠ 0 → ∀ dir,
        exec (.regionExp1 seg low ⟨dir, size, value, pend⟩) s = .next (refusedWith .misaligned s)) ∧
      exec (.portExp1Ar seg ⟨.read, size, value, pend⟩) s =
        .next { s with response :=
          ⟨.ok, (if s.exp1Rom.length = 0 then onesOf size else 1), Config.exp1Ticks size⟩ } ∧
      exec (.portExp1Ar seg ⟨.write, size, value, pend⟩) s =
        .next { s with response := ⟨.ok, 0, Config.exp1Ticks size⟩ }

/-- REGION_EXP2 and its three ports: TTY status, TTY data, POST, and dummies elsewhere (R70, R125, R126,
R146, R147, R148, R150, R151, R152). One opaque cost per size, the same for a read and a write, is
the model's choice from R125 and R126 (notes/assumptions 8). That wider requests never reach the
three ports is what R146 marks as derived from R70. -/
def Obligations.Exp2Row : Prop :=
  ∀ (seg : BitVec 3) (low : BitVec 13) (size : Size) (value pend : Word) (s : State),
    pend.getLsbD 31 = false →
      let written : State → State := fun u =>
        { u with response := ⟨.ok, 0, Config.exp2Ticks size⟩ }
      let answered : Word → State := fun d =>
        { s with response := ⟨.ok, d, Config.exp2Ticks size⟩ }
      let posted : State := { s with trace := s.trace ++ [.postStatus (value.setWidth 4)] }
      (low.toNat % nbytes size = 0 →
        exec (.regionExp2 seg low ⟨.read, size, value, pend⟩) s =
          .next (answered (if low.toNat = 0x21 then 0x0C else onesOf size)) ∧
        exec (.regionExp2 seg low ⟨.write, size, value, pend⟩) s =
          .next (written (if low.toNat = 0x23 then ttyTyped s (value.setWidth 8)
            else if low.toNat = 0x41 then posted else s))) ∧
      (low.toNat % nbytes size ≠ 0 → ∀ dir,
        exec (.regionExp2 seg low ⟨dir, size, value, pend⟩) s = .next (refusedWith .misaligned s)) ∧
      (size = .byte →
        exec (.portExp2TtyStatus seg ⟨.read, size, value, pend⟩) s = .next (answered 0x0C) ∧
        exec (.portExp2TtyStatus seg ⟨.write, size, value, pend⟩) s = .next (written s) ∧
        exec (.portExp2TtyData seg ⟨.read, size, value, pend⟩) s = .next (answered 0xFF) ∧
        exec (.portExp2TtyData seg ⟨.write, size, value, pend⟩) s =
          .next (written (ttyTyped s (value.setWidth 8))) ∧
        exec (.portExp2Post seg ⟨.read, size, value, pend⟩) s = .next (answered 0xFF) ∧
        exec (.portExp2Post seg ⟨.write, size, value, pend⟩) s = .next (written posted)) ∧
      (size ≠ .byte → ∀ dir,
        exec (.portExp2TtyStatus seg ⟨dir, size, value, pend⟩) s = .next (refusedWith .misaligned s) ∧
        exec (.portExp2TtyData seg ⟨dir, size, value, pend⟩) s = .next (refusedWith .misaligned s) ∧
        exec (.portExp2Post seg ⟨dir, size, value, pend⟩) s = .next (refusedWith .misaligned s))

/-- Characters written to the TTY port and a line feed leave one event with the whole line (R48, R125,
R126, R150). The opaque cost of a byte access to EXP2 is the model's choice from R125 and R126
(notes/assumptions 8). -/
def Obligations.TtyLineAccumulates : Prop :=
  ∀ (line : List Byte) (s : State), (∀ c ∈ line, c ≠ 0x0D ∧ c ≠ 0x0A) →
    execAll ((line ++ [0x0A]).map fun (c : Byte) => .wb 0x1F802023 (c.setWidth 32) 0) s =
      .next { s with
        ttyLine := []
        trace := s.trace ++ [.ttyLine (s.ttyLine ++ line)]
        response := ⟨.ok, 0, Config.exp2Ticks .byte⟩ }

/-- REGION_SIO and PORT_SIO_STAT: offset 4 reads 5, the rest 0, writes dropped, 2 ticks (R196, R197). -/
def Obligations.SioRow : Prop :=
  ∀ (seg : BitVec 3) (low : BitVec 4) (size : Size) (value pend : Word) (s : State),
    pend.getLsbD 31 = false →
      (low.toNat % nbytes size = 0 →
        exec (.regionSio seg low ⟨.read, size, value, pend⟩) s =
          .next { s with response := ⟨.ok, (if low.toNat = 4 then 5 else 0), 2⟩ } ∧
        exec (.regionSio seg low ⟨.write, size, value, pend⟩) s =
          .next { s with response := ⟨.ok, 0, 2⟩ }) ∧
      (low.toNat % nbytes size ≠ 0 → ∀ dir,
        exec (.regionSio seg low ⟨dir, size, value, pend⟩) s = .next (refusedWith .misaligned s)) ∧
      exec (.portSioStat seg ⟨.read, size, value, pend⟩) s = .next { s with response := ⟨.ok, 5, 2⟩ } ∧
      exec (.portSioStat seg ⟨.write, size, value, pend⟩) s = .next { s with response := ⟨.ok, 0, 2⟩ }

/-- Reads of the nine MEMCTRL registers at every size and lane, by port row and by region row (R160). -/
def Obligations.MemctrlReads : Prop :=
  ∀ (r : McReg) (seg : BitVec 3) (lane : BitVec 2) (size : Size) (value pend : Word) (s : State),
    pend.getLsbD 31 = false →
      let after : State := { s with response :=
        ⟨.ok, truncTo size (MemCtrl.get s.memctrl r >>> (8 * lane.toNat)), 2⟩ }
      exec (memctrlPort r seg lane ⟨.read, size, value, pend⟩) s = .next after ∧
      (∀ low : BitVec 5, low.toNat = 4 * mcIndex r + lane.toNat →
        exec (.regionMemctrlA seg low ⟨.read, size, value, pend⟩) s = .next after) ∧
      (r = .commonDelay → exec (.regionMemctrlB seg lane ⟨.read, size, value, pend⟩) s = .next after)

/-- Writes of the nine MEMCTRL registers at every size and lane, by port row and by region row (R161,
R162). -/
def Obligations.MemctrlWrites : Prop :=
  ∀ (r : McReg) (seg : BitVec 3) (lane : BitVec 2) (size : Size) (value pend : Word) (s : State),
    pend.getLsbD 31 = false →
      let after : State := { memctrlWritten s r (truncTo size value <<< (8 * lane.toNat)) with
        response := ⟨.ok, 0, 2⟩ }
      exec (memctrlPort r seg lane ⟨.write, size, value, pend⟩) s = .next after ∧
      (∀ low : BitVec 5, low.toNat = 4 * mcIndex r + lane.toNat →
        exec (.regionMemctrlA seg low ⟨.write, size, value, pend⟩) s = .next after) ∧
      (r = .commonDelay → exec (.regionMemctrlB seg lane ⟨.write, size, value, pend⟩) s = .next after)

/-- A MEMCTRL word write followed by a read gives the masked mixture; the other eight registers read as
before (R28, R161, 41_memctrl_timing.md). -/
def Obligations.MemctrlWriteThenRead : Prop :=
  ∀ (r q : McReg) (seg seg' : BitVec 3) (v w pend pend' : Word) (s : State),
    pend.getLsbD 31 = false → pend'.getLsbD 31 = false →
      ∃ t, exec (memctrlPort r seg 0 ⟨.write, .word, v, pend⟩) s = .next t ∧
        exec (memctrlPort q seg' 0 ⟨.read, .word, w, pend'⟩) t =
          .next { t with response := ⟨.ok,
            (if q = r then
              (MemCtrl.get s.memctrl r &&& ~~~(MemCtrl.get s.platform.wmask r)) |||
                (v &&& MemCtrl.get s.platform.wmask r)
            else MemCtrl.get s.memctrl q), 2⟩ }

/-- REGION_MEMCTRL2 and PORT_RAM_SIZE_REG by the lane rule, 2 ticks (R165, R166). -/
def Obligations.Memctrl2Registers : Prop :=
  ∀ (seg : BitVec 3) (lane : BitVec 2) (size : Size) (value pend : Word) (s : State),
    pend.getLsbD 31 = false →
      let read : State := { s with response :=
        ⟨.ok, truncTo size (s.ramSizeReg >>> (8 * lane.toNat)), 2⟩ }
      let written : State := { s with
        ramSizeReg := truncTo size value <<< (8 * lane.toNat), response := ⟨.ok, 0, 2⟩ }
      exec (.regionMemctrl2 seg lane ⟨.read, size, value, pend⟩) s = .next read ∧
      exec (.regionMemctrl2 seg lane ⟨.write, size, value, pend⟩) s = .next written ∧
      exec (.portRamSizeReg seg lane ⟨.read, size, value, pend⟩) s = .next read ∧
      exec (.portRamSizeReg seg lane ⟨.write, size, value, pend⟩) s = .next written

/-- REGION_PAD forwards every aligned request at its own size and offset, 2 ticks (R195). Where the
answer comes from is the model's choice (notes/assumptions 4). -/
def Obligations.PadRow : Prop :=
  ∀ (seg : BitVec 3) (low : BitVec 4) (size : Size) (value pend : Word) (s : State),
    pend.getLsbD 31 = false →
      (low.toNat % nbytes size = 0 →
        exec (.regionPad seg low ⟨.read, size, value, pend⟩) s =
          .next { forwardedRead s .pad low.toNat size with
            response := ⟨.ok, truncTo size (State.nextAnswer s), 2⟩ } ∧
        exec (.regionPad seg low ⟨.write, size, value, pend⟩) s =
          .next { forwardedWrite s .pad low.toNat size (truncTo size value) with
            response := ⟨.ok, 0, 2⟩ }) ∧
      (low.toNat % nbytes size ≠ 0 → ∀ dir,
        exec (.regionPad seg low ⟨dir, size, value, pend⟩) s = .next (refusedWith .misaligned s))

/-- REGION_INTC and REGION_DMA forward one aligned word access by the lane rule, at every size and
alignment (R198, R199). Where the answer comes from is the model's choice (notes/assumptions 4). -/
def Obligations.IntcAndDmaRows : Prop :=
  ∀ (row : Access → Instr) (c : Collab) (off : Nat) (size : Size) (value pend : Word) (s : State),
    pend.getLsbD 31 = false →
    ((∃ (seg : BitVec 3) (low : BitVec 3), row = .regionIntc seg low ∧ c = .intc ∧ off = low.toNat) ∨
      ∃ (seg : BitVec 3) (low : BitVec 7), row = .regionDma seg low ∧ c = .dma ∧ off = low.toNat) →
      exec (row ⟨.read, size, value, pend⟩) s =
        .next { forwardedRead s c (off / 4 * 4) .word with
          response := ⟨.ok, truncTo size (State.nextAnswer s >>> (off % 4 * 8)), 2⟩ } ∧
      exec (row ⟨.write, size, value, pend⟩) s =
        .next { forwardedWrite s c (off / 4 * 4) .word (truncTo size value <<< (off % 4 * 8)) with
          response := ⟨.ok, 0, 2⟩ }

/-- REGION_CDROM forwards bytes at the cost of its table and refuses wider requests (R202, R203). Where
the answer comes from is the model's choice (notes/assumptions 4). -/
def Obligations.CdromRow : Prop :=
  ∀ (seg : BitVec 3) (low : BitVec 2) (size : Size) (value pend : Word) (s : State),
    pend.getLsbD 31 = false →
      exec (.regionCdrom seg low ⟨.read, .byte, value, pend⟩) s =
        .next { forwardedRead s .cdrom low.toNat .byte with
          response := ⟨.ok, truncTo .byte (State.nextAnswer s), s.cdromTime.byte⟩ } ∧
      exec (.regionCdrom seg low ⟨.write, .byte, value, pend⟩) s =
        .next { forwardedWrite s .cdrom low.toNat .byte (truncTo .byte value) with
          response := ⟨.ok, 0, s.cdromTime.byte⟩ } ∧
      (size ≠ .byte → ∀ dir, exec (.regionCdrom seg low ⟨dir, size, value, pend⟩) s =
        .next (refusedWith (if low.toNat % nbytes size = 0 then .assertWidth else .misaligned) s))

/-- REGION_GPU and REGION_MDEC forward words; narrower requests are invalid accesses (R204, R205). Where
the answer comes from is the model's choice (notes/assumptions 4). -/
def Obligations.GpuAndMdecRows : Prop :=
  ∀ (row : Access → Instr) (c : Collab) (off : Nat) (size : Size) (value pend : Word) (s : State),
    pend.getLsbD 31 = false →
    ((∃ (seg : BitVec 3) (low : BitVec 3), row = .regionGpu seg low ∧ c = .gpu ∧ off = low.toNat) ∨
      ∃ (seg : BitVec 3) (low : BitVec 3), row = .regionMdec seg low ∧ c = .mdec ∧ off = low.toNat) →
      (off % 4 = 0 →
        exec (row ⟨.read, .word, value, pend⟩) s =
          .next { forwardedRead s c off .word with response := ⟨.ok, State.nextAnswer s, 2⟩ } ∧
        exec (row ⟨.write, .word, value, pend⟩) s =
          .next { forwardedWrite s c off .word value with response := ⟨.ok, 0, 2⟩ }) ∧
      (size ≠ .word → off % nbytes size = 0 → ∀ dir,
        exec (row ⟨dir, size, value, pend⟩) s = .next (invalidFor dir size s)) ∧
      (off % nbytes size ≠ 0 → ∀ dir,
        exec (row ⟨dir, size, value, pend⟩) s = .next (refusedWith .misaligned s))

/-- REGION_SPU_a and REGION_SPU_b: halfwords forwarded, a word is two halfwords low first, bytes invalid
(R207). Where the answers come from is the model's choice (notes/assumptions 4). -/
def Obligations.SpuRows : Prop :=
  ∀ (row : Access → Instr) (off : Nat) (size : Size) (value pend : Word) (s : State),
    pend.getLsbD 31 = false →
    ((∃ (seg : BitVec 3) (low : BitVec 9), row = .regionSpuA seg low ∧ off = low.toNat) ∨
      ∃ (seg : BitVec 3) (low : BitVec 7), row = .regionSpuB seg low ∧ off = 0x200 + low.toNat) →
      let first := forwardedRead s .spu off .half
      (off % 2 = 0 →
        exec (row ⟨.read, .half, value, pend⟩) s =
          .next { first with
            response := ⟨.ok, truncTo .half (State.nextAnswer s), s.spuTime.half⟩ } ∧
        exec (row ⟨.write, .half, value, pend⟩) s =
          .next { forwardedWrite s .spu off .half (truncTo .half value) with
            response := ⟨.ok, 0, s.spuTime.half⟩ }) ∧
      (off % 4 = 0 →
        off + 2 ≤ 0x27E ∧
        exec (row ⟨.read, .word, value, pend⟩) s =
          .next { forwardedRead first .spu (off + 2) .half with
            response := ⟨.ok, (State.nextAnswer first).setWidth 16 ++ (State.nextAnswer s).setWidth 16,
              s.spuTime.word⟩ } ∧
        exec (row ⟨.write, .word, value, pend⟩) s =
          .next { forwardedWrite
            (forwardedWrite s .spu off .half ((value.extractLsb' 0 16).setWidth 32))
            .spu (off + 2) .half ((value.extractLsb' 16 16).setWidth 32) with
              response := ⟨.ok, 0, s.spuTime.word⟩ }) ∧
      (∀ dir, exec (row ⟨dir, .byte, value, pend⟩) s = .next (invalidFor dir .byte s)) ∧
      (off % nbytes size ≠ 0 → ∀ dir,
        exec (row ⟨dir, size, value, pend⟩) s = .next (refusedWith .misaligned s))

/-- Bus requests to an address in no region are invalid accesses (R65, R103, R155, R291). -/
def Obligations.UnmappedPackets : Prop :=
  ∀ (a b pend : Word) (size : Size) (s : State),
    pend.getLsbD 31 = false → Unmapped (a.toNat % 0x20000000) → a.toNat % nbytes size = 0 →
      exec (readPacket size a pend) s = .next (invalidFor .read size s) ∧
      exec (writePacket size a b pend) s = .next (invalidFor .write size s)

/-- A misaligned request outside the adapted regions is refused, unmapped addresses included (R70). -/
def Obligations.MisalignedPackets : Prop :=
  ∀ (a b pend : Word) (size : Size) (s : State),
    pend.getLsbD 31 = false → ¬ Adapted (a.toNat % 0x20000000) → a.toNat % nbytes size ≠ 0 →
      exec (readPacket size a pend) s = .next (refusedWith .misaligned s) ∧
      exec (writePacket size a b pend) s = .next (refusedWith .misaligned s)

/-- Every reserved packet value is answered Refused(ReservedOp) with no state change (R106). -/
def Obligations.ReservedValuesRefused : Prop :=
  ∀ s : State,
    exec .reserved3 s = .next (refusedWith .reservedOp s) ∧
    exec .reserved7 s = .next (refusedWith .reservedOp s) ∧
    (∀ n : Word, n.getLsbD 31 = true → exec (.exec n) s = .next (refusedWith .reservedOp s)) ∧
    (∀ k n : Word, 1 < k.toNat ∨ n.getLsbD 31 = true →
      exec (.xclk k n) s = .next (refusedWith .reservedOp s)) ∧
    (∀ k l : Word, 2 < k.toNat → exec (.gate k l) s = .next (refusedWith .reservedOp s)) ∧
    (∀ n : Word, 0x800000 < n.toNat → exec (.exprom n) s = .next (refusedWith .reservedOp s)) ∧
    (∀ i : Instr, (Instr.pend i).getLsbD 31 = true → exec i s = .next (refusedWith .reservedOp s))

/-- Counter ports of the three timers: synchronize, then read or set the counter by the lane rule (R220,
R222, R223). That a write changes nothing else is the sentence of R223 the spec marks as derived:
the source lists no other effect. -/
def Obligations.TimerCounterPorts : Prop :=
  ∀ (i : TimerId) (seg : BitVec 3) (lane : BitVec 2) (size : Size) (value pend : Word) (s : State),
    pend.getLsbD 31 = false →
      let u := synchronized s pend.toNat
      let T := Timers.get u.timers i
      exec (timerPort i .counter seg lane ⟨.read, size, value, pend⟩) s =
        .next { u with response :=
          ⟨.ok, truncTo size (T.counter.setWidth 32 >>> (8 * lane.toNat)), 2⟩ } ∧
      exec (timerPort i .counter seg lane ⟨.write, size, value, pend⟩) s =
        .next { u with
          timers := Timers.set u.timers i
            { T with counter := (truncTo size value <<< (8 * lane.toNat)).setWidth 16 }
          response := ⟨.ok, 0, 2⟩ }

/-- Mode ports of the three timers: a read clears the two reached flags, a write restarts the timer
(R224, R225). -/
def Obligations.TimerModePorts : Prop :=
  ∀ (i : TimerId) (seg : BitVec 3) (lane : BitVec 2) (size : Size) (value pend : Word) (s : State),
    pend.getLsbD 31 = false →
      let u := synchronized s pend.toNat
      let T := Timers.get u.timers i
      let m : BitVec 16 := (truncTo size value <<< (8 * lane.toNat)).setWidth 16 &&& 0x1FFF
      exec (timerPort i .mode seg lane ⟨.read, size, value, pend⟩) s =
        .next { u with
          timers := Timers.set u.timers i { T with mode := T.mode &&& ~~~0x1800 }
          response := ⟨.ok, truncTo size (T.mode.setWidth 32 >>> (8 * lane.toNat)), 2⟩ } ∧
      exec (timerPort i .mode seg lane ⟨.write, size, value, pend⟩) s =
        .next { u with
          timers := Timers.set u.timers i
            { T with
              mode := if m.getLsbD 7 then m ||| 0x0400 else m
              counter := 0
              irqDone := false }
          response := ⟨.ok, 0, 2⟩ }

/-- Target ports of the three timers: no synchronize, read or set the target by the lane rule (R226,
R227). -/
def Obligations.TimerTargetPorts : Prop :=
  ∀ (i : TimerId) (seg : BitVec 3) (lane : BitVec 2) (size : Size) (value pend : Word) (s : State),
    pend.getLsbD 31 = false →
      let T := Timers.get s.timers i
      exec (timerPort i .target seg lane ⟨.read, size, value, pend⟩) s =
        .next { s with response :=
          ⟨.ok, truncTo size (T.target.setWidth 32 >>> (8 * lane.toNat)), 2⟩ } ∧
      exec (timerPort i .target seg lane ⟨.write, size, value, pend⟩) s =
        .next { s with
          timers := Timers.set s.timers i
            { T with target := (truncTo size value <<< (8 * lane.toNat)).setWidth 16 }
          response := ⟨.ok, 0, 2⟩ }

/-- Port 0xC of each timer reads ones shifted by the lane and drops writes (R228). -/
def Obligations.TimerEmptyPorts : Prop :=
  ∀ (i : TimerId) (seg : BitVec 3) (lane : BitVec 2) (size : Size) (value pend : Word) (s : State),
    pend.getLsbD 31 = false →
      exec (timerPort i .none seg lane ⟨.read, size, value, pend⟩) s =
        .next { s with response :=
          ⟨.ok, truncTo size ((0xFFFFFFFF : Word) >>> (8 * lane.toNat)), 2⟩ } ∧
      exec (timerPort i .none seg lane ⟨.write, size, value, pend⟩) s =
        .next { s with response := ⟨.ok, 0, 2⟩ }

/-- REGION_TIMERS_a and REGION_TIMERS_b do what the port rows do and always complete (R98, R220). -/
def Obligations.TimerRegionRows : Prop :=
  ∀ (i : TimerId) (p : TimerPort) (seg : BitVec 3) (lane : BitVec 2) (x : Access) (s : State),
    x.pend.getLsbD 31 = false →
      (∀ low : BitVec 5, i ≠ .t2 → low.toNat = 16 * timerIndex i + 4 * portIndex p + lane.toNat →
        ∃ t, exec (.regionTimersA seg low x) s = .next t ∧
          exec (timerPort i p seg lane x) s = .next t ∧
          t.response.status = .ok ∧ t.response.ticks = 2) ∧
      (∀ low : BitVec 4, i = .t2 → low.toNat = 4 * portIndex p + lane.toNat →
        ∃ t, exec (.regionTimersB seg low x) s = .next t ∧
          exec (timerPort i p seg lane x) s = .next t ∧
          t.response.status = .ok ∧ t.response.ticks = 2)

/-- EXEC advances the three timers in order and publishes the downcount (R240). -/
def Obligations.ExecAdvances : Prop :=
  ∀ (n : Word) (s : State),
    (n.getLsbD 31 = false →
      exec (.exec n) s = .next { executed s n.toNat with response := ⟨.ok, 0, 0⟩ }) ∧
    (n.getLsbD 31 = true → exec (.exec n) s = .next (refusedWith .reservedOp s))

/-- GATE records the level; a rising edge acts by the sync mode (R230). -/
def Obligations.GateEdges : Prop :=
  ∀ (i : TimerId) (k level : Word) (s : State),
    let T := Timers.get s.timers i
    (2 < k.toNat → exec (.gate k level) s = .next (refusedWith .reservedOp s)) ∧
    exec (.gate (BitVec.ofNat 32 (timerIndex i)) level) s =
      .next { s with
        timers := Timers.set s.timers i
          (if T.gate = level.getLsbD 0 then T
            else if level.getLsbD 0 = true ∧ T.mode.toNat % 2 = 1 then
              (if T.mode.toNat / 2 % 4 = 0 then { T with gate := true }
                else if T.mode.toNat / 2 % 4 = 3 then { T with gate := true, mode := T.mode - 1 }
                else { T with gate := true, counter := 0 })
            else { T with gate := level.getLsbD 0 })
        response := ⟨.ok, 0, 0⟩ }

/-- XCLK advances timer 0 or 1 only while it counts on its external clock (R243). -/
def Obligations.XclkPulses : Prop :=
  ∀ (i : TimerId) (k n : Word) (s : State),
    let T := Timers.get s.timers i
    (1 < k.toNat ∨ n.getLsbD 31 = true → exec (.xclk k n) s = .next (refusedWith .reservedOp s)) ∧
    (i ≠ .t2 → n.getLsbD 31 = false → exec (.xclk (BitVec.ofNat 32 (timerIndex i)) n) s =
      .next (if T.mode.getLsbD 8 = true ∧ countsByTable T = true then
        { s with
          timers := Timers.set s.timers i (addTicks T n.toNat).1
          trace := s.trace ++ requested s.platform i T (some n.toNat)
          response := ⟨.ok, 0, 0⟩ }
      else { s with response := ⟨.ok, 0, 0⟩ }))

/-- AddTicks: the counter is an exact remainder, the reached flags record the events, the rest is kept
(R24, R244, R253). -/
def Obligations.AddTicksCounter : Prop :=
  ∀ (t : Timer) (n : Nat),
    let c := t.counter.toNat + n
    let r := (addTicks t n).1
    r.counter.toNat =
      (if t.mode.getLsbD 3 then (if t.target = 0 then 0 else c % t.target.toNat) else c % 0xFFFF) ∧
    r.target = t.target ∧ r.gate = t.gate ∧
    (r.mode.getLsbD 11 = true ↔
      t.mode.getLsbD 11 = true ∨ (t.target.toNat ≤ c ∧ t.counter.toNat < t.target.toNat)) ∧
    (r.mode.getLsbD 12 = true ↔ t.mode.getLsbD 12 = true ∨ 0xFFFF ≤ c) ∧
    ∀ k, k ≠ 10 → k ≠ 11 → k ≠ 12 → r.mode.getLsbD k = t.mode.getLsbD k

/-- AddTicks: one request per call at most, moving the line by pulse or toggle, fired by the line and
the latch (R32, R244, R245, R246). -/
def Obligations.AddTicksRequest : Prop :=
  ∀ (t : Timer) (n : Nat),
    let c := t.counter.toNat + n
    let r := addTicks t n
    let event := (t.target.toNat ≤ c ∧ t.counter.toNat < t.target.toNat) ∨ 0xFFFF ≤ c
    let spent := t.mode.getLsbD 6 = false ∧ t.irqDone = true
    (¬ event → r.2 = false ∧ r.1.mode.getLsbD 10 = t.mode.getLsbD 10) ∧
    (event → t.mode.getLsbD 7 = false → r.1.mode.getLsbD 10 = true ∧ (r.2 = true ↔ ¬ spent)) ∧
    (event → t.mode.getLsbD 7 = true →
      r.1.mode.getLsbD 10 = (!t.mode.getLsbD 10) ∧
        (r.2 = true ↔ t.mode.getLsbD 10 = true ∧ ¬ spent)) ∧
    (r.1.irqDone = true ↔ t.irqDone = true ∨ r.2 = true)

/-- A timer that EXEC advances ends below 0xFFFF, and below its target under reset_at_target (R22, R244,
R338). -/
def Obligations.CountersAfterExec : Prop :=
  ∀ (n : Word) (s : State), n.getLsbD 31 = false →
    ∃ t, exec (.exec n) s = .next t ∧
      ∀ i k, ticksReceived s n.toNat i = some k →
        (Timers.get t.timers i).counter.toNat ≤ 0xFFFE ∧
        ((Timers.get s.timers i).mode.getLsbD 3 = true →
          (Timers.get t.timers i).counter = 0 ∨
            (Timers.get t.timers i).counter.toNat < (Timers.get t.timers i).target.toNat)

/-- The published downcount is the least horizon of the eligible timers, or the sentinel, and is not 0
(R248, R253). -/
def Obligations.DowncountIsTheNearestHorizon : Prop :=
  ∀ (sentinel : Nat) (ts : Timers),
    let d := computeDowncount sentinel ts
    d ≤ sentinel ∧ (∀ c, Candidate ts c → d ≤ c) ∧ (d = sentinel ∨ Candidate ts d) ∧
      (0 < sentinel → 0 < d)

/-- Fewer ticks than the downcount bring no timer that is below its target to an event its enable bits
ask for (R248, R332). -/
def Obligations.DowncountPrecedesEventsBelowTarget : Prop :=
  ∀ (s : State) (n k : Nat) (i : TimerId),
    s.carry ≤ 7 → n < computeDowncount s.platform.downcountNone s.timers →
    ticksReceived s n i = some k →
    (Timers.get s.timers i).counter.toNat < (Timers.get s.timers i).target.toNat →
      ((Timers.get s.timers i).mode.getLsbD 4 = true →
        (Timers.get s.timers i).counter.toNat + k < (Timers.get s.timers i).target.toNat) ∧
      ((Timers.get s.timers i).mode.getLsbD 5 = true →
        (Timers.get s.timers i).counter.toNat + k < 0xFFFF)

/-- A sequence of EXEC that never jumps past the target raises exactly one interrupt per period (R252). -/
def Obligations.ExactlyKInterrupts : Prop :=
  ∀ (i : TimerId) (ns : List Word) (k : Nat) (s : State),
    let T := Timers.get s.timers i
    countsByTable T = true → externalByTable i T = false →
    T.mode.getLsbD 3 = true → T.mode.getLsbD 6 = true → T.mode.getLsbD 7 = false →
    0 < T.target.toNat → T.counter.toNat < T.target.toNat →
      (withinTarget T.target.toNat T.counter.toNat ns → totalTicks ns = k * T.target.toNat →
        ∃ t, execEach ns s = .next t ∧
          irqCount (s.platform.irqTmr0 + timerIndex i) t.trace =
            irqCount (s.platform.irqTmr0 + timerIndex i) s.trace + k) ∧
      (T.counter = 0 → 0 < k → k * T.target.toNat < 2 ^ 31 →
        ∃ t, exec (.exec (BitVec.ofNat 32 (k * T.target.toNat))) s = .next t ∧
          irqCount (s.platform.irqTmr0 + timerIndex i) t.trace =
            irqCount (s.platform.irqTmr0 + timerIndex i) s.trace + 1)

/-- Chunking EXEC loses no sysclk ticks of timer 2's divided clock (R242, R244). -/
def Obligations.DividedClockLosesNoTicks : Prop :=
  ∀ (ns : List Word) (s : State),
    countsByTable s.timers.t2 = true → externalByTable .t2 s.timers.t2 = true →
    (∀ n ∈ ns, n.getLsbD 31 = false) →
      let T := s.timers.t2
      let total := T.counter.toNat + (s.carry + totalTicks ns) / 8
      ∃ t, execEach ns s = .next t ∧
        (ns ≠ [] →
          t.carry = (s.carry + totalTicks ns) % 8 ∧
          t.timers.t2.counter.toNat =
            (if T.mode.getLsbD 3 then (if T.target = 0 then 0 else total % T.target.toNat)
              else total % 0xFFFF))

/-- Without irq_repeat a timer raises at most one interrupt until its mode is written (R35, R246, R301). -/
def Obligations.OneShotRaisesOnce : Prop :=
  (∀ (j : Instr) (s t : State) (i : TimerId), exec j s = .next t →
    Instr.writesMode i j = false → j ≠ .reset → j ≠ .load →
    (Timers.get s.timers i).mode.getLsbD 6 = false →
      let before := irqCount (s.platform.irqTmr0 + timerIndex i) s.trace
      let after := irqCount (s.platform.irqTmr0 + timerIndex i) t.trace
      (Timers.get t.timers i).mode.getLsbD 6 = false ∧
        ((Timers.get s.timers i).irqDone = true →
          (Timers.get t.timers i).irqDone = true ∧ after = before) ∧
        (after = before ∨ (after = before + 1 ∧ (Timers.get t.timers i).irqDone = true))) ∧
    ∀ (js : List Instr) (s : State) (i : TimerId),
      (∀ j ∈ js, Instr.writesMode i j = false ∧ j ≠ .reset ∧ j ≠ .load) →
      (Timers.get s.timers i).mode.getLsbD 6 = false →
        ∃ t, execAll js s = .next t ∧
          irqCount (s.platform.irqTmr0 + timerIndex i) t.trace ≤
            irqCount (s.platform.irqTmr0 + timerIndex i) s.trace +
              (if (Timers.get s.timers i).irqDone then 0 else 1)

/-- RESET gives every component the value of the reset table, or refuses a BIOS image of the wrong
length (R54, R270, R271, R320, R322). That the model's own fields stay is the model's choice
(notes/assumptions 11). -/
def Obligations.ResetTable : Prop :=
  ∀ s : State,
    let p := s.platform
    (p.biosImage.length = 0x80000 → ∃ bios',
      exec .reset s = .next
        { ram := p.ramInit, scratch := p.scratchInit, bios := bios', exp1Rom := []
          memctrl := p.memctrlReset, ramSizeReg := p.ramSizeReset
          biosTime := calcTimes p.memDelay p.comDelay p.memctrlReset.biosDelay p.memctrlReset.commonDelay
          cdromTime := calcTimes p.memDelay p.comDelay p.memctrlReset.cdromDelay p.memctrlReset.commonDelay
          spuTime := calcTimes p.memDelay p.comDelay p.memctrlReset.spuDelay p.memctrlReset.commonDelay
          exp1Time := ⟨0, 0, 0⟩, exp2Time := ⟨0, 0, 0⟩, ttyLine := []
          timers := ⟨⟨0, 0, 0, false, false⟩, ⟨0, 0, 0, false, false⟩, ⟨0, 0, 0, false, false⟩⟩
          carry := 0, downcount := p.downcountNone, trace := []
          inbox := s.inbox, payload := s.payload, response := ⟨.ok, 0, 0⟩
          saved := s.saved, answers := s.answers, collabReads := s.collabReads, platform := p } ∧
      (Memory.wf p.biosImage.cells = true →
        Memory.wf bios' = true ∧
        littleEndian (Memory.read bios') 0x6F0C .word = 0x24010001 ∧
        littleEndian (Memory.read bios') 0x6F14 .word = 0xAF81A9C0 ∧
        ∀ a, a < 0x6F0C ∨ (0x6F10 ≤ a ∧ a < 0x6F14) ∨ 0x6F18 ≤ a →
          Memory.read bios' a = Memory.read p.biosImage.cells a)) ∧
    (p.biosImage.length ≠ 0x80000 → exec .reset s = .next (refusedWith .biosLoadFailed s))

/-- PATCH rewrites one BIOS word as (old & ~mask) | value, or refuses any other address (R274, R275). -/
def Obligations.PatchRewritesOneWord : Prop :=
  ∀ (a value mask : Word) (s : State),
    let pa := a.toNat % 0x20000000
    let off := pa - 0x1FC00000
    ((0x1FC00000 ≤ pa ∧ pa < 0x1FC80000 ∧ pa % 4 = 0) → Memory.wf s.bios = true → ∃ bios',
      exec (.patch a value mask) s = .next { s with bios := bios', response := ⟨.ok, 0, 0⟩ } ∧
      StoredInto s.bios bios' off
        ((littleEndian (Memory.read s.bios) off .word &&& ~~~mask) ||| value) 4) ∧
    (¬ (0x1FC00000 ≤ pa ∧ pa < 0x1FC80000 ∧ pa % 4 = 0) →
      exec (.patch a value mask) s = .next (refusedWith .badPatchAddress s))

/-- EXPROM replaces the expansion ROM by the bytes beside the packet (R277, 44_host_ops.md). The bytes
of a payload of another length are the model's choice (notes/assumptions 9). -/
def Obligations.ExpromReplacesTheRom : Prop :=
  ∀ (length : Word) (s : State), length.toNat ≤ 0x800000 →
    ∃ rom, exec (.exprom length) s = .next { s with exp1Rom := rom, response := ⟨.ok, 0, 0⟩ } ∧
      rom.length = length.toNat ∧
      (s.payload.bytes.length = length.toNat → rom = s.payload.bytes)

/-- SAVE returns the snapshot; LOAD restores a well-formed one and refuses any other (R280, R281, R282).
That a missing snapshot or a buffer not in canonical form is not well formed is the model's choice
(notes/assumptions 10). -/
def Obligations.SaveAndLoad : Prop :=
  ∀ s : State,
    exec .save s = .next { s with
      saved := some
        { exp1Time := s.exp1Time, exp2Time := s.exp2Time, biosTime := s.biosTime
          cdromTime := s.cdromTime, spuTime := s.spuTime
          ram := ⟨0x200000, s.ram⟩, bios := ⟨0x80000, s.bios⟩, memctrl := s.memctrl
          ramSizeReg := s.ramSizeReg, ttyLine := s.ttyLine, timers := s.timers, carry := s.carry
          scratch := ⟨0x400, s.scratch⟩, downcount := s.downcount }
      response := ⟨.ok, 0, 0⟩ } ∧
    (s.payload.snapshot = none → exec .load s = .next (refusedWith .stateMismatch s)) ∧
    ∀ n, s.payload.snapshot = some n →
      let good := n.ram.length = 0x200000 ∧ n.bios.length = 0x80000 ∧ n.scratch.length = 0x400 ∧
        Memory.ok n.ram.cells 0x200000 = true ∧ Memory.ok n.bios.cells 0x80000 = true ∧
        Memory.ok n.scratch.cells 0x400 = true ∧
        (∀ i, (Timers.get n.timers i).mode.toNat < 0x2000) ∧ n.carry ≤ 7
      (good → exec .load s = .next { s with
        exp1Time := n.exp1Time, exp2Time := n.exp2Time, biosTime := n.biosTime
        cdromTime := n.cdromTime, spuTime := n.spuTime, ram := n.ram.cells, bios := n.bios.cells
        memctrl := n.memctrl, ramSizeReg := n.ramSizeReg, ttyLine := n.ttyLine, timers := n.timers
        carry := n.carry, scratch := n.scratch.cells, downcount := n.downcount
        response := ⟨.ok, 0, 0⟩ }) ∧
      (¬ good → exec .load s = .next (refusedWith .stateMismatch s))

/-- A legal state saved and loaded into any other state comes back in every component but ROM and trace
(R280, R281, R282, R283). -/
def Obligations.SaveLoadRoundTrip : Prop :=
  ∀ s : State, State.legal s = true →
    ∃ t n, exec .save s = .next t ∧ t.saved = some n ∧
      ∀ u : State, u.payload.snapshot = some n →
        ∃ w, exec .load u = .next w ∧ w.response.status = .ok ∧ SameSnapshot w s ∧
          w.exp1Rom = u.exp1Rom ∧ w.trace = u.trace

/-- The timing calculator is the formula of R171, and its results are bounded and ordered as R172 says
(R170, R171, R172). -/
def Obligations.CalcFormulaAndBounds : Prop :=
  ∀ (ml : MemDelayLayout) (cl : ComDelayLayout) (md cd : Word),
    let r := calcTimes ml cl md cd
    let field : Word → Nat → Int := fun w lo => ((w.toNat / 2 ^ lo % 16 : Nat) : Int)
    let both : Int := (if md.getLsbD ml.useCom0 then field cd cl.com0 - 1 else 0) +
      (if md.getLsbD ml.useCom2 then field cd cl.com2 else 0)
    let least : Int := if md.getLsbD ml.useCom3 then field cd cl.com3 else 0
    let first : Int :=
      max ((if both < 6 then both + 1 else both) + field md ml.accessTime + 2) (least + 6)
    let seq : Int := max (both + field md ml.accessTime + 2) (least + 2)
    (r.byte : Int) = first ∧
      (r.half : Int) = (if md.getLsbD ml.dataBus16 then first else first + seq) ∧
      (r.word : Int) = (if md.getLsbD ml.dataBus16 then first + seq else first + seq + seq + seq) ∧
      6 ≤ r.byte ∧ 6 ≤ r.half ∧ 8 ≤ r.word ∧ r.byte ≤ 46 ∧ r.half ≤ 92 ∧ r.word ≤ 184 ∧
      r.byte ≤ r.half ∧ r.half ≤ r.word ∧
      (if md.getLsbD ml.dataBus16 then r.half = r.byte else r.byte + 2 ≤ r.half)
end

