-- ==== Sys2Proof/Laws/AddressMap.lean ====
section
/-! SUPPORT. The address map: each range of `20_memory.md` R63 decodes to its region, the region and port
rows of `30_encoding.md` R100 and R101 decode to their operations, and nothing else does. -/

namespace Sys2Proof.Machine

/-- The segment fold is the remainder by `2 ^ 29` (R62). -/
theorem physAddr_eq_mod (a : Word) : physAddr a = a.toNat % 0x20000000 := by
  unfold physAddr
  rw [BitVec.toNat_and, show (0x1FFFFFFF : Word).toNat = 2 ^ 29 - 1 from rfl,
    Nat.and_two_pow_sub_one_eq_mod]

/-- The low bits of an address are those of its physical form. -/
theorem setWidth_toNat_physAddr (a : Word) (k : Nat) (hk : k ≤ 29) :
    (a.setWidth k).toNat = physAddr a % 2 ^ k := by
  rw [physAddr_eq_mod, BitVec.toNat_setWidth, show (0x20000000 : Nat) = 2 ^ 29 from rfl,
    Nat.mod_mod_of_dvd _ (Nat.pow_dvd_pow 2 hk)]

/-- An address in a row has the row's upper address bits. -/
theorem physAddr_of_inRow {a : Word} {lo m : Nat} (h : inRow a lo m = true) :
    physAddr a / 2 ^ lo = m / 2 ^ lo := by
  rw [physAddr_eq_mod]
  simpa [inRow] using h

/-- A choice between two answers gave one of them. -/
theorem of_ite_eq {α : Type} {c : Prop} [Decidable c] {u v w : α} (h : (if c then u else v) = w) :
    (c ∧ u = w) ∨ (¬c ∧ v = w) := by
  by_cases hc : c
  · exact .inl ⟨hc, by rwa [if_pos hc] at h⟩
  · exact .inr ⟨hc, by rwa [if_neg hc] at h⟩

/-- A row lookup that succeeds took this row or goes on with the rows after it. -/
theorem of_ite_ok {c : Prop} [Decidable c] {i j : Instr} {rest : Except DecodeError Instr}
    (h : (if c then .ok j else rest) = .ok i) : (c ∧ i = j) ∨ rest = .ok i :=
  (of_ite_eq h).imp (fun e => ⟨e.1, (Except.ok.inj e.2).symm⟩) fun e => e.2

theorem decodePhys_ram {pa : Nat} (h : pa < 0x00800000) :
    decodePhys pa = some (.ram, pa % 0x00200000) := by
  rw [decodePhys]
  exact if_pos h

theorem decodePhys_exp1 {pa : Nat} (h : 0x1F000000 ≤ pa ∧ pa < 0x1F800000) :
    decodePhys pa = some (.exp1, pa - 0x1F000000) := by
  rw [decodePhys]
  repeat rw [if_neg (by omega)]
  exact if_pos h

theorem decodePhys_scratchpad {pa : Nat} (h : 0x1F800000 ≤ pa ∧ pa < 0x1F800400) :
    decodePhys pa = some (.scratchpad, pa - 0x1F800000) := by
  rw [decodePhys]
  repeat rw [if_neg (by omega)]
  exact if_pos h

theorem decodePhys_memctrl {pa : Nat} (h : 0x1F801000 ≤ pa ∧ pa < 0x1F801024) :
    decodePhys pa = some (.memctrl, pa - 0x1F801000) := by
  rw [decodePhys]
  repeat rw [if_neg (by omega)]
  exact if_pos h

theorem decodePhys_pad {pa : Nat} (h : 0x1F801040 ≤ pa ∧ pa < 0x1F801050) :
    decodePhys pa = some (.pad, pa - 0x1F801040) := by
  rw [decodePhys]
  repeat rw [if_neg (by omega)]
  exact if_pos h

theorem decodePhys_sio {pa : Nat} (h : 0x1F801050 ≤ pa ∧ pa < 0x1F801060) :
    decodePhys pa = some (.sio, pa - 0x1F801050) := by
  rw [decodePhys]
  repeat rw [if_neg (by omega)]
  exact if_pos h

theorem decodePhys_memctrl2 {pa : Nat} (h : 0x1F801060 ≤ pa ∧ pa < 0x1F801064) :
    decodePhys pa = some (.memctrl2, pa - 0x1F801060) := by
  rw [decodePhys]
  repeat rw [if_neg (by omega)]
  exact if_pos h

theorem decodePhys_intc {pa : Nat} (h : 0x1F801070 ≤ pa ∧ pa < 0x1F801078) :
    decodePhys pa = some (.intc, pa - 0x1F801070) := by
  rw [decodePhys]
  repeat rw [if_neg (by omega)]
  exact if_pos h

theorem decodePhys_dma {pa : Nat} (h : 0x1F801080 ≤ pa ∧ pa < 0x1F801100) :
    decodePhys pa = some (.dma, pa - 0x1F801080) := by
  rw [decodePhys]
  repeat rw [if_neg (by omega)]
  exact if_pos h

theorem decodePhys_timers {pa : Nat} (h : 0x1F801100 ≤ pa ∧ pa < 0x1F801130) :
    decodePhys pa = some (.timers, pa - 0x1F801100) := by
  rw [decodePhys]
  repeat rw [if_neg (by omega)]
  exact if_pos h

theorem decodePhys_cdrom {pa : Nat} (h : 0x1F801800 ≤ pa ∧ pa < 0x1F801804) :
    decodePhys pa = some (.cdrom, pa - 0x1F801800) := by
  rw [decodePhys]
  repeat rw [if_neg (by omega)]
  exact if_pos h

theorem decodePhys_gpu {pa : Nat} (h : 0x1F801810 ≤ pa ∧ pa < 0x1F801818) :
    decodePhys pa = some (.gpu, pa - 0x1F801810) := by
  rw [decodePhys]
  repeat rw [if_neg (by omega)]
  exact if_pos h

theorem decodePhys_mdec {pa : Nat} (h : 0x1F801820 ≤ pa ∧ pa < 0x1F801828) :
    decodePhys pa = some (.mdec, pa - 0x1F801820) := by
  rw [decodePhys]
  repeat rw [if_neg (by omega)]
  exact if_pos h

theorem decodePhys_spu {pa : Nat} (h : 0x1F801C00 ≤ pa ∧ pa < 0x1F801E80) :
    decodePhys pa = some (.spu, pa - 0x1F801C00) := by
  rw [decodePhys]
  repeat rw [if_neg (by omega)]
  exact if_pos h

theorem decodePhys_exp2 {pa : Nat} (h : 0x1F802000 ≤ pa ∧ pa < 0x1F804000) :
    decodePhys pa = some (.exp2, pa - 0x1F802000) := by
  rw [decodePhys]
  repeat rw [if_neg (by omega)]
  exact if_pos h

theorem decodePhys_bios {pa : Nat} (h : 0x1FC00000 ≤ pa ∧ pa < 0x1FC80000) :
    decodePhys pa = some (.bios, pa - 0x1FC00000) := by
  rw [decodePhys]
  repeat rw [if_neg (by omega)]
  exact if_pos h

/-- What the address decoder can answer (R63, R65). -/
theorem decodePhys_cases {pa : Nat} (hpa : pa < 0x20000000) {d : Option (Region × Nat)}
    (h : decodePhys pa = d) :
    (pa < 0x00800000 ∧ d = some (.ram, pa % 0x00200000)) ∨
    (0x1F000000 ≤ pa ∧ pa < 0x1F800000 ∧ d = some (.exp1, pa - 0x1F000000)) ∨
    (0x1F800000 ≤ pa ∧ pa < 0x1F800400 ∧ d = some (.scratchpad, pa - 0x1F800000)) ∨
    (0x1F801000 ≤ pa ∧ pa < 0x1F801024 ∧ d = some (.memctrl, pa - 0x1F801000)) ∨
    (0x1F801040 ≤ pa ∧ pa < 0x1F801050 ∧ d = some (.pad, pa - 0x1F801040)) ∨
    (0x1F801050 ≤ pa ∧ pa < 0x1F801060 ∧ d = some (.sio, pa - 0x1F801050)) ∨
    (0x1F801060 ≤ pa ∧ pa < 0x1F801064 ∧ d = some (.memctrl2, pa - 0x1F801060)) ∨
    (0x1F801070 ≤ pa ∧ pa < 0x1F801078 ∧ d = some (.intc, pa - 0x1F801070)) ∨
    (0x1F801080 ≤ pa ∧ pa < 0x1F801100 ∧ d = some (.dma, pa - 0x1F801080)) ∨
    (0x1F801100 ≤ pa ∧ pa < 0x1F801130 ∧ d = some (.timers, pa - 0x1F801100)) ∨
    (0x1F801800 ≤ pa ∧ pa < 0x1F801804 ∧ d = some (.cdrom, pa - 0x1F801800)) ∨
    (0x1F801810 ≤ pa ∧ pa < 0x1F801818 ∧ d = some (.gpu, pa - 0x1F801810)) ∨
    (0x1F801820 ≤ pa ∧ pa < 0x1F801828 ∧ d = some (.mdec, pa - 0x1F801820)) ∨
    (0x1F801C00 ≤ pa ∧ pa < 0x1F801E80 ∧ d = some (.spu, pa - 0x1F801C00)) ∨
    (0x1F802000 ≤ pa ∧ pa < 0x1F804000 ∧ d = some (.exp2, pa - 0x1F802000)) ∨
    (0x1FC00000 ≤ pa ∧ pa < 0x1FC80000 ∧ d = some (.bios, pa - 0x1FC00000)) ∨
    (Unmapped pa ∧ d = none) := by
  unfold decodePhys at h
  refine (of_ite_eq h).imp (fun e => ⟨e.1, e.2.symm⟩) fun ⟨_, h⟩ => ?_
  iterate 15 refine (of_ite_eq h).imp (fun e => ⟨e.1.1, e.1.2, e.2.symm⟩) fun ⟨_, h⟩ => ?_
  refine ⟨?_, h.symm⟩
  unfold Unmapped
  omega

/-- What a region row lookup can answer. -/
theorem decodeRegion_cases {a : Word} {x : Access} {i : Instr} (h : decodeRegion a x = .ok i) :
    (inRow a 23 0x00000000 = true ∧ i = .regionRam (segOf a) (a.extractLsb' 21 2) (a.setWidth 21) x) ∨
    (inRow a 23 0x1F000000 = true ∧ i = .regionExp1 (segOf a) (a.setWidth 23) x) ∨
    (inRow a 10 0x1F800000 = true ∧ i = .regionScratchpad (segOf a) (a.setWidth 10) x) ∨
    (inRow a 5 0x1F801000 = true ∧ i = .regionMemctrlA (segOf a) (a.setWidth 5) x) ∨
    (inRow a 2 0x1F801020 = true ∧ i = .regionMemctrlB (segOf a) (a.setWidth 2) x) ∨
    (inRow a 4 0x1F801040 = true ∧ i = .regionPad (segOf a) (a.setWidth 4) x) ∨
    (inRow a 4 0x1F801050 = true ∧ i = .regionSio (segOf a) (a.setWidth 4) x) ∨
    (inRow a 2 0x1F801060 = true ∧ i = .regionMemctrl2 (segOf a) (a.setWidth 2) x) ∨
    (inRow a 3 0x1F801070 = true ∧ i = .regionIntc (segOf a) (a.setWidth 3) x) ∨
    (inRow a 7 0x1F801080 = true ∧ i = .regionDma (segOf a) (a.setWidth 7) x) ∨
    (inRow a 5 0x1F801100 = true ∧ i = .regionTimersA (segOf a) (a.setWidth 5) x) ∨
    (inRow a 4 0x1F801120 = true ∧ i = .regionTimersB (segOf a) (a.setWidth 4) x) ∨
    (inRow a 2 0x1F801800 = true ∧ i = .regionCdrom (segOf a) (a.setWidth 2) x) ∨
    (inRow a 3 0x1F801810 = true ∧ i = .regionGpu (segOf a) (a.setWidth 3) x) ∨
    (inRow a 3 0x1F801820 = true ∧ i = .regionMdec (segOf a) (a.setWidth 3) x) ∨
    (inRow a 9 0x1F801C00 = true ∧ i = .regionSpuA (segOf a) (a.setWidth 9) x) ∨
    (inRow a 7 0x1F801E00 = true ∧ i = .regionSpuB (segOf a) (a.setWidth 7) x) ∨
    (inRow a 13 0x1F802000 = true ∧ i = .regionExp2 (segOf a) (a.setWidth 13) x) ∨
    (inRow a 19 0x1FC00000 = true ∧ i = .regionBios (segOf a) (a.setWidth 19) x) := by
  unfold decodeRegion at h
  iterate 18 refine (of_ite_ok h).imp_right fun h => ?_
  exact (of_ite_ok h).resolve_right nofun

/-- What a port row lookup can answer. -/
theorem decodePort_cases {a : Word} {x : Access} {i : Instr} (h : decodePort a x = .ok i) :
    (inRow a 2 0x1F801000 = true ∧ i = .portMemctrl0 (segOf a) (a.setWidth 2) x) ∨
    (inRow a 2 0x1F801004 = true ∧ i = .portMemctrl1 (segOf a) (a.setWidth 2) x) ∨
    (inRow a 2 0x1F801008 = true ∧ i = .portMemctrl2 (segOf a) (a.setWidth 2) x) ∨
    (inRow a 2 0x1F80100C = true ∧ i = .portMemctrl3 (segOf a) (a.setWidth 2) x) ∨
    (inRow a 2 0x1F801010 = true ∧ i = .portMemctrl4 (segOf a) (a.setWidth 2) x) ∨
    (inRow a 2 0x1F801014 = true ∧ i = .portMemctrl5 (segOf a) (a.setWidth 2) x) ∨
    (inRow a 2 0x1F801018 = true ∧ i = .portMemctrl6 (segOf a) (a.setWidth 2) x) ∨
    (inRow a 2 0x1F80101C = true ∧ i = .portMemctrl7 (segOf a) (a.setWidth 2) x) ∨
    (inRow a 2 0x1F801020 = true ∧ i = .portMemctrl8 (segOf a) (a.setWidth 2) x) ∨
    (inRow a 2 0x1F801060 = true ∧ i = .portRamSizeReg (segOf a) (a.setWidth 2) x) ∨
    (inRow a 0 0x1F801054 = true ∧ i = .portSioStat (segOf a) x) ∨
    (inRow a 2 0x1F801100 = true ∧ i = .portT0Counter (segOf a) (a.setWidth 2) x) ∨
    (inRow a 2 0x1F801104 = true ∧ i = .portT0Mode (segOf a) (a.setWidth 2) x) ∨
    (inRow a 2 0x1F801108 = true ∧ i = .portT0Target (segOf a) (a.setWidth 2) x) ∨
    (inRow a 2 0x1F80110C = true ∧ i = .portT0None (segOf a) (a.setWidth 2) x) ∨
    (inRow a 2 0x1F801110 = true ∧ i = .portT1Counter (segOf a) (a.setWidth 2) x) ∨
    (inRow a 2 0x1F801114 = true ∧ i = .portT1Mode (segOf a) (a.setWidth 2) x) ∨
    (inRow a 2 0x1F801118 = true ∧ i = .portT1Target (segOf a) (a.setWidth 2) x) ∨
    (inRow a 2 0x1F80111C = true ∧ i = .portT1None (segOf a) (a.setWidth 2) x) ∨
    (inRow a 2 0x1F801120 = true ∧ i = .portT2Counter (segOf a) (a.setWidth 2) x) ∨
    (inRow a 2 0x1F801124 = true ∧ i = .portT2Mode (segOf a) (a.setWidth 2) x) ∨
    (inRow a 2 0x1F801128 = true ∧ i = .portT2Target (segOf a) (a.setWidth 2) x) ∨
    (inRow a 2 0x1F80112C = true ∧ i = .portT2None (segOf a) (a.setWidth 2) x) ∨
    (inRow a 0 0x1F020018 = true ∧ i = .portExp1Ar (segOf a) x) ∨
    (inRow a 0 0x1F802021 = true ∧ i = .portExp2TtyStatus (segOf a) x) ∨
    (inRow a 0 0x1F802023 = true ∧ i = .portExp2TtyData (segOf a) x) ∨
    (inRow a 0 0x1F802041 = true ∧ i = .portExp2Post (segOf a) x) := by
  unfold decodePort at h
  iterate 26 refine (of_ite_ok h).imp_right fun h => ?_
  exact (of_ite_ok h).resolve_right nofun

end Sys2Proof.Machine
end

