-- ==== Sys2Proof/Laws/Encoding.lean ====
section
/-! SUPPORT. The operands of a carrier are read back from the places they were written to, and the
address of a row is recognised as that row's. -/

namespace Sys2Proof

/-- A concatenation as a number. -/
theorem toNat_append_mul {w v : Nat} (x : BitVec w) (y : BitVec v) :
    (x ++ y).toNat = x.toNat * 2 ^ v + y.toNat := by
  rw [BitVec.toNat_append, ← Nat.shiftLeft_add_eq_or_of_lt y.isLt, Nat.shiftLeft_eq]

theorem packetForm_op (op : BitVec 4) (a b c : Word) :
    (packetForm op a b c).bits.extractLsb' 96 4 = op := by
  apply BitVec.eq_of_toNat_eq
  have := a.isLt; have := b.isLt; have := c.isLt; have := op.isLt
  simp only [packetForm, BitVec.extractLsb'_toNat, toNat_append_mul, Nat.shiftRight_eq_div_pow]
  omega

theorem packetForm_a (op : BitVec 4) (a b c : Word) :
    (packetForm op a b c).bits.extractLsb' 64 32 = a := by
  apply BitVec.eq_of_toNat_eq
  have := a.isLt; have := b.isLt; have := c.isLt; have := op.isLt
  simp only [packetForm, BitVec.extractLsb'_toNat, toNat_append_mul, Nat.shiftRight_eq_div_pow]
  omega

theorem packetForm_b (op : BitVec 4) (a b c : Word) :
    (packetForm op a b c).bits.extractLsb' 32 32 = b := by
  apply BitVec.eq_of_toNat_eq
  have := a.isLt; have := b.isLt; have := c.isLt; have := op.isLt
  simp only [packetForm, BitVec.extractLsb'_toNat, toNat_append_mul, Nat.shiftRight_eq_div_pow]
  omega

theorem packetForm_c (op : BitVec 4) (a b c : Word) :
    (packetForm op a b c).bits.extractLsb' 0 32 = c := by
  apply BitVec.eq_of_toNat_eq
  have := a.isLt; have := b.isLt; have := c.isLt; have := op.isLt
  simp only [packetForm, BitVec.extractLsb'_toNat, toNat_append_mul, Nat.shiftRight_eq_div_pow]
  omega

theorem addressForm_op (f : Form) (a : Word) (x : Access) :
    (addressForm f a x).bits.extractLsb' 96 4 = busOp x.dir x.size := by
  apply BitVec.eq_of_toNat_eq
  have := a.isLt; have := x.value.isLt; have := x.pend.isLt; have := (busOp x.dir x.size).isLt
  simp only [addressForm, BitVec.extractLsb'_toNat, toNat_append_mul, Nat.shiftRight_eq_div_pow]
  omega

theorem addressForm_address (f : Form) (a : Word) (x : Access) :
    (addressForm f a x).bits.extractLsb' 0 32 = a := by
  apply BitVec.eq_of_toNat_eq
  have := a.isLt; have := x.value.isLt; have := x.pend.isLt; have := (busOp x.dir x.size).isLt
  simp only [addressForm, BitVec.extractLsb'_toNat, toNat_append_mul, Nat.shiftRight_eq_div_pow]
  omega

theorem addressForm_value (f : Form) (a : Word) (x : Access) :
    (addressForm f a x).bits.extractLsb' 32 32 = x.value := by
  apply BitVec.eq_of_toNat_eq
  have := a.isLt; have := x.value.isLt; have := x.pend.isLt; have := (busOp x.dir x.size).isLt
  simp only [addressForm, BitVec.extractLsb'_toNat, toNat_append_mul, Nat.shiftRight_eq_div_pow]
  omega

theorem addressForm_pend (f : Form) (a : Word) (x : Access) :
    (addressForm f a x).bits.extractLsb' 64 32 = x.pend := by
  apply BitVec.eq_of_toNat_eq
  have := a.isLt; have := x.value.isLt; have := x.pend.isLt; have := (busOp x.dir x.size).isLt
  simp only [addressForm, BitVec.extractLsb'_toNat, toNat_append_mul, Nat.shiftRight_eq_div_pow]
  omega

/-- The six operation codes of bus requests name their type and size. -/
theorem busRequest_busOp (d : Dir) (z : Size) : busRequest (busOp d z) = some (d, z) := by
  cases d <;> cases z <;> rfl

/-- A packet decodes to the operation its code names, with the operands in place. -/
theorem decode_packetForm (op : BitVec 4) (a b c : Word) :
    decode (packetForm op a b c) = .ok (decodePacket op a b c) := by
  have h : (packetForm op a b c).form = .packet := rfl
  simp only [decode, h, packetForm_op, packetForm_a, packetForm_b, packetForm_c]

/-- A bus request read by its address is looked up in the rows of its format. -/
theorem decode_regionForm (a : Word) (x : Access) :
    decode (addressForm .region a x) = decodeRegion a x := by
  have h : (addressForm .region a x).form = .region := rfl
  simp only [decode, h, addressForm_op, addressForm_address, addressForm_value, addressForm_pend,
    busRequest_busOp]

theorem decode_portForm (a : Word) (x : Access) :
    decode (addressForm .port a x) = decodePort a x := by
  have h : (addressForm .port a x).form = .port := rfl
  simp only [decode, h, addressForm_op, addressForm_address, addressForm_value, addressForm_pend,
    busRequest_busOp]

theorem rowAddress_toNat (seg : BitVec 3) (m low : Nat) (h : m + low < 0x20000000) :
    (rowAddress seg m low).toNat = seg.toNat * 0x20000000 + (m + low) := by
  have := seg.isLt
  simp only [rowAddress, BitVec.toNat_ofNat]
  omega

theorem segOf_rowAddress (seg : BitVec 3) (m low : Nat) (h : m + low < 0x20000000) :
    segOf (rowAddress seg m low) = seg := by
  apply BitVec.eq_of_toNat_eq
  have := seg.isLt
  have hd : (seg.toNat * 0x20000000 + (m + low)) / 2 ^ 29 % 2 ^ 3 = seg.toNat := by omega
  rw [segOf, BitVec.extractLsb'_toNat, rowAddress_toNat _ _ _ h, Nat.shiftRight_eq_div_pow, hd]

/-- The segment bits do not decide the row. -/
theorem inRow_rowAddress (seg : BitVec 3) (m low lo r : Nat) (h : m + low < 0x20000000) :
    inRow (rowAddress seg m low) lo r = ((m + low) / 2 ^ lo == r / 2 ^ lo) := by
  have := seg.isLt
  have hm : (seg.toNat * 0x20000000 + (m + low)) % 0x20000000 = m + low := by omega
  rw [inRow, rowAddress_toNat _ _ _ h, hm]

/-- The free low bits of a row's address are those it was built from. -/
theorem setWidth_rowAddress (seg : BitVec 3) (m low k : Nat) (h : m + low < 0x20000000)
    (hk : k ≤ 29) (hm : m % 2 ^ k = 0) :
    (rowAddress seg m low).setWidth k = BitVec.ofNat k low := by
  apply BitVec.eq_of_toNat_eq
  rw [BitVec.toNat_setWidth, rowAddress_toNat _ _ _ h, BitVec.toNat_ofNat]
  have h29 : (0x20000000 : Nat) = 2 ^ (29 - k) * 2 ^ k := by
    rw [← Nat.pow_add, show 29 - k + k = 29 by omega]
  rw [h29, ← Nat.mul_assoc, Nat.add_comm, Nat.add_mul_mod_self_right, Nat.add_mod, hm, Nat.zero_add,
    Nat.mod_mod]

end Sys2Proof
end

