-- ==== Sys2Proof/Laws/Memory.lean ====
section
/-! SUPPORT. The stores: every operation keeps the canonical form, a write is read back and leaves every
other offset alone, a little-endian write is read back. -/

namespace Sys2Proof.Machine

theorem Memory.wfAbove_mono {lo lo' : Nat} {m : Memory} (hle : lo' ≤ lo)
    (h : Memory.wfAbove lo m = true) : Memory.wfAbove lo' m = true := by
  cases m with
  | nil => rfl
  | cons c rest =>
    obtain ⟨a, v⟩ := c
    simp only [Memory.wfAbove, Bool.and_eq_true, decide_eq_true_eq] at h ⊢
    exact ⟨⟨by omega, h.1.2⟩, h.2⟩

theorem Memory.wf_of_wfAbove {lo : Nat} {m : Memory} (h : Memory.wfAbove lo m = true) :
    Memory.wf m = true := by
  cases m with
  | nil => rfl
  | cons c rest =>
    obtain ⟨a, v⟩ := c
    simp only [Memory.wfAbove, Bool.and_eq_true] at h
    simp only [Memory.wf, Bool.and_eq_true]
    exact ⟨h.1.2, h.2⟩

/-- An offset at or below the bound of a canonical tail is not listed. -/
theorem Memory.read_below {lo a : Nat} {m : Memory} (h : Memory.wfAbove lo m = true) (ha : a ≤ lo) :
    Memory.read m a = blankByte := by
  induction m generalizing lo with
  | nil => rfl
  | cons c rest ih =>
    obtain ⟨b, w⟩ := c
    simp only [Memory.wfAbove, Bool.and_eq_true, decide_eq_true_eq] at h
    rw [Memory.read, if_neg (by omega)]
    exact ih h.2 (by omega)

theorem Memory.wfAbove_write {lo a : Nat} {v : Byte} {m : Memory} (h : Memory.wfAbove lo m = true)
    (ha : lo < a) : Memory.wfAbove lo (Memory.write m a v) = true := by
  induction m generalizing lo with
  | nil =>
    by_cases hv : v = blankByte <;> simp [Memory.write, Memory.wfAbove, hv, ha]
  | cons c rest ih =>
    obtain ⟨b, w⟩ := c
    simp only [Memory.wfAbove, Bool.and_eq_true, decide_eq_true_eq] at h
    obtain ⟨⟨hb, hw⟩, hr⟩ := h
    simp only [Memory.write]
    split_ifs with h1 h2 h3 h4
    · simp [Memory.wfAbove, hb, hw, hr]
    · simp [Memory.wfAbove, ha, h2, h1, hw, hr]
    · exact Memory.wfAbove_mono (by omega) hr
    · subst h3; simp [Memory.wfAbove, ha, h4, hr]
    · simp only [Memory.wfAbove, Bool.and_eq_true, decide_eq_true_eq]
      exact ⟨⟨hb, hw⟩, ih hr (by omega)⟩

/-- A write keeps the canonical form. -/
theorem Memory.wf_write {m : Memory} (h : Memory.wf m = true) (a : Nat) (v : Byte) :
    Memory.wf (Memory.write m a v) = true := by
  cases m with
  | nil =>
    by_cases hv : v = blankByte <;> simp [Memory.write, Memory.wf, Memory.wfAbove, hv]
  | cons c rest =>
    obtain ⟨b, w⟩ := c
    simp only [Memory.wf, Bool.and_eq_true, decide_eq_true_eq] at h
    obtain ⟨hw, hr⟩ := h
    simp only [Memory.write]
    split_ifs with h1 h2 h3 h4
    · simp [Memory.wf, hw, hr]
    · simp [Memory.wf, Memory.wfAbove, h2, h1, hw, hr]
    · exact Memory.wf_of_wfAbove hr
    · subst h3; simp [Memory.wf, h4, hr]
    · simp only [Memory.wf, Bool.and_eq_true, decide_eq_true_eq]
      exact ⟨hw, Memory.wfAbove_write hr (by omega)⟩

/-- A write inside the store keeps every listed offset inside it. -/
theorem Memory.within_write {m : Memory} {size a : Nat} (h : Memory.within m size = true)
    (ha : a < size) (v : Byte) : Memory.within (Memory.write m a v) size = true := by
  induction m with
  | nil => by_cases hv : v = blankByte <;> simp [Memory.write, Memory.within, hv, ha]
  | cons c rest ih =>
    obtain ⟨b, w⟩ := c
    have hc : b < size ∧ Memory.within rest size = true := by
      simpa only [Memory.within, List.all_cons, Bool.and_eq_true, decide_eq_true_eq] using h
    have cons : ∀ {d : Nat} {u : Byte} {l : Memory}, d < size → Memory.within l size = true →
        Memory.within ((d, u) :: l) size = true := by
      intro d u l hd hl
      simpa only [Memory.within, List.all_cons, Bool.and_eq_true, decide_eq_true_eq] using
        And.intro hd hl
    simp only [Memory.write]
    split_ifs
    · exact h
    · exact cons ha h
    · exact hc.2
    · exact cons ha hc.2
    · exact cons hc.1 (ih hc.2)

theorem Memory.ok_write {m : Memory} {size a : Nat} (h : Memory.ok m size = true) (ha : a < size)
    (v : Byte) : Memory.ok (Memory.write m a v) size = true := by
  simp only [Memory.ok, Bool.and_eq_true] at h ⊢
  exact ⟨Memory.wf_write h.1 a v, Memory.within_write h.2 ha v⟩

/-- The byte written is read back. -/
theorem Memory.read_write_same {m : Memory} (h : Memory.wf m = true) (a : Nat) (v : Byte) :
    Memory.read (Memory.write m a v) a = v := by
  induction m with
  | nil => by_cases hv : v = blankByte <;> simp [Memory.write, Memory.read, hv]
  | cons c rest ih =>
    obtain ⟨b, w⟩ := c
    simp only [Memory.wf, Bool.and_eq_true] at h
    simp only [Memory.write]
    split_ifs with h1 h2 h3 h4
    · rw [Memory.read, if_neg (by omega), Memory.read_below h.2 (by omega), h2]
    · simp [Memory.read]
    · rw [Memory.read_below h.2 (by omega), h4]
    · simp [Memory.read]
    · rw [Memory.read, if_neg h3]
      exact ih (Memory.wf_of_wfAbove h.2)

/-- Every other byte is as before. -/
theorem Memory.read_write_other {m : Memory} (h : Memory.wf m = true) {a b : Nat} (hne : b ≠ a)
    (v : Byte) : Memory.read (Memory.write m a v) b = Memory.read m b := by
  induction m with
  | nil => by_cases hv : v = blankByte <;> simp [Memory.write, Memory.read, hv, hne]
  | cons c rest ih =>
    obtain ⟨e, w⟩ := c
    simp only [Memory.wf, Bool.and_eq_true] at h
    simp only [Memory.write]
    split_ifs with h1 h2 h3 h4
    · rfl
    · rw [Memory.read, if_neg hne]
    · subst h3; rw [Memory.read, if_neg hne]
    · subst h3; rw [Memory.read, Memory.read, if_neg hne, if_neg hne]
    · rw [Memory.read, Memory.read, ih (Memory.wf_of_wfAbove h.2)]

/-- A little-endian write keeps the canonical form and the size of the store. -/
theorem ok_storeWrite {size n : Nat} : ∀ {m : Memory} {off v : Nat}, Memory.ok m size = true →
    off + n ≤ size → Memory.ok (storeWrite m off v n) size = true := by
  induction n with
  | zero => intro m off v h _; exact h
  | succ n ih => intro m off v h hle; exact ih (Memory.ok_write h (by omega) _) (by omega)

theorem wf_storeWrite {n : Nat} : ∀ {m : Memory} {off v : Nat}, Memory.wf m = true →
    Memory.wf (storeWrite m off v n) = true := by
  induction n with
  | zero => intro m off v h; exact h
  | succ n ih => intro m off v h; exact ih (Memory.wf_write h _ _)

/-- What a little-endian write leaves at every offset. -/
theorem read_storeWrite {n : Nat} : ∀ {m : Memory} {off v : Nat} (_ : Memory.wf m = true) (a : Nat),
    Memory.read (storeWrite m off v n) a =
      if off ≤ a ∧ a < off + n then BitVec.ofNat 8 (v / 256 ^ (a - off)) else Memory.read m a := by
  induction n with
  | zero => intro m off v h a; rw [if_neg (by omega)]; rfl
  | succ n ih =>
    intro m off v h a
    rw [storeWrite, ih (Memory.wf_write h _ _)]
    by_cases h1 : off + 1 ≤ a ∧ a < off + 1 + n
    · rw [if_pos h1, if_pos (by omega), Nat.div_div_eq_div_mul, ← Nat.pow_succ',
        show (a - (off + 1)).succ = a - off by omega]
    · rw [if_neg h1]
      by_cases h2 : a = off
      · subst h2
        rw [if_pos (by omega), Memory.read_write_same h]
        simp
      · rw [if_neg (by omega), Memory.read_write_other h h2]

/-- A little-endian read depends only on the bytes it covers. -/
theorem storeRead_congr {rd rd' : Nat → Byte} {n : Nat} : ∀ {off : Nat},
    (∀ a, off ≤ a → a < off + n → rd a = rd' a) → storeRead rd off n = storeRead rd' off n := by
  induction n with
  | zero => intro off _; rfl
  | succ n ih =>
    intro off h
    rw [storeRead, storeRead, h off (by omega) (by omega),
      ih (fun a h1 h2 => h a (by omega) (by omega))]

theorem storeRead_lt {rd : Nat → Byte} {n : Nat} : ∀ {off : Nat}, storeRead rd off n < 256 ^ n := by
  induction n with
  | zero => intro off; simp [storeRead]
  | succ n ih =>
    intro off
    have h := ih (off := off + 1)
    have hb := (rd off).isLt
    rw [storeRead, Nat.pow_succ']
    omega

/-- A little-endian write is read back, reduced to its width. -/
theorem storeRead_storeWrite {n : Nat} : ∀ {m : Memory} {off v : Nat}, Memory.wf m = true →
    storeRead (Memory.read (storeWrite m off v n)) off n = v % 256 ^ n := by
  induction n with
  | zero => intro m off v _; simp [storeRead, Nat.mod_one]
  | succ n ih =>
    intro m off v h
    have hw : Memory.wf (Memory.write m off (BitVec.ofNat 8 v)) = true := Memory.wf_write h _ _
    rw [storeRead, storeWrite, ih hw, read_storeWrite hw, if_neg (by omega),
      Memory.read_write_same h, Nat.pow_succ', BitVec.toNat_ofNat]
    have := Nat.mod_mul (x := v) (a := 256) (b := 256 ^ n)
    omega

end Sys2Proof.Machine
end

