-- ==== Sys2Proof/Laws/State.lean ====
section
/-! SUPPORT. What each state update does to each field, true by `rfl`. -/

namespace Sys2Proof.Machine

@[simp] theorem State.respond_ram (s : State) (st : Status) (d : Word) (k : Nat) :
    (State.respond s st d k).ram = s.ram := rfl
@[simp] theorem State.respond_scratch (s : State) (st : Status) (d : Word) (k : Nat) :
    (State.respond s st d k).scratch = s.scratch := rfl
@[simp] theorem State.respond_bios (s : State) (st : Status) (d : Word) (k : Nat) :
    (State.respond s st d k).bios = s.bios := rfl
@[simp] theorem State.respond_exp1Rom (s : State) (st : Status) (d : Word) (k : Nat) :
    (State.respond s st d k).exp1Rom = s.exp1Rom := rfl
@[simp] theorem State.respond_memctrl (s : State) (st : Status) (d : Word) (k : Nat) :
    (State.respond s st d k).memctrl = s.memctrl := rfl
@[simp] theorem State.respond_ramSizeReg (s : State) (st : Status) (d : Word) (k : Nat) :
    (State.respond s st d k).ramSizeReg = s.ramSizeReg := rfl
@[simp] theorem State.respond_biosTime (s : State) (st : Status) (d : Word) (k : Nat) :
    (State.respond s st d k).biosTime = s.biosTime := rfl
@[simp] theorem State.respond_cdromTime (s : State) (st : Status) (d : Word) (k : Nat) :
    (State.respond s st d k).cdromTime = s.cdromTime := rfl
@[simp] theorem State.respond_spuTime (s : State) (st : Status) (d : Word) (k : Nat) :
    (State.respond s st d k).spuTime = s.spuTime := rfl
@[simp] theorem State.respond_exp1Time (s : State) (st : Status) (d : Word) (k : Nat) :
    (State.respond s st d k).exp1Time = s.exp1Time := rfl
@[simp] theorem State.respond_exp2Time (s : State) (st : Status) (d : Word) (k : Nat) :
    (State.respond s st d k).exp2Time = s.exp2Time := rfl
@[simp] theorem State.respond_ttyLine (s : State) (st : Status) (d : Word) (k : Nat) :
    (State.respond s st d k).ttyLine = s.ttyLine := rfl
@[simp] theorem State.respond_timers (s : State) (st : Status) (d : Word) (k : Nat) :
    (State.respond s st d k).timers = s.timers := rfl
@[simp] theorem State.respond_carry (s : State) (st : Status) (d : Word) (k : Nat) :
    (State.respond s st d k).carry = s.carry := rfl
@[simp] theorem State.respond_downcount (s : State) (st : Status) (d : Word) (k : Nat) :
    (State.respond s st d k).downcount = s.downcount := rfl
@[simp] theorem State.respond_trace (s : State) (st : Status) (d : Word) (k : Nat) :
    (State.respond s st d k).trace = s.trace := rfl
@[simp] theorem State.respond_inbox (s : State) (st : Status) (d : Word) (k : Nat) :
    (State.respond s st d k).inbox = s.inbox := rfl
@[simp] theorem State.respond_payload (s : State) (st : Status) (d : Word) (k : Nat) :
    (State.respond s st d k).payload = s.payload := rfl
@[simp] theorem State.respond_response (s : State) (st : Status) (d : Word) (k : Nat) :
    (State.respond s st d k).response = ⟨st, d, k⟩ := rfl
@[simp] theorem State.respond_saved (s : State) (st : Status) (d : Word) (k : Nat) :
    (State.respond s st d k).saved = s.saved := rfl
@[simp] theorem State.respond_answers (s : State) (st : Status) (d : Word) (k : Nat) :
    (State.respond s st d k).answers = s.answers := rfl
@[simp] theorem State.respond_collabReads (s : State) (st : Status) (d : Word) (k : Nat) :
    (State.respond s st d k).collabReads = s.collabReads := rfl
@[simp] theorem State.respond_platform (s : State) (st : Status) (d : Word) (k : Nat) :
    (State.respond s st d k).platform = s.platform := rfl

@[simp] theorem State.emit_ram (s : State) (e : Event) :
    (State.emit s e).ram = s.ram := rfl
@[simp] theorem State.emit_scratch (s : State) (e : Event) :
    (State.emit s e).scratch = s.scratch := rfl
@[simp] theorem State.emit_bios (s : State) (e : Event) :
    (State.emit s e).bios = s.bios := rfl
@[simp] theorem State.emit_exp1Rom (s : State) (e : Event) :
    (State.emit s e).exp1Rom = s.exp1Rom := rfl
@[simp] theorem State.emit_memctrl (s : State) (e : Event) :
    (State.emit s e).memctrl = s.memctrl := rfl
@[simp] theorem State.emit_ramSizeReg (s : State) (e : Event) :
    (State.emit s e).ramSizeReg = s.ramSizeReg := rfl
@[simp] theorem State.emit_biosTime (s : State) (e : Event) :
    (State.emit s e).biosTime = s.biosTime := rfl
@[simp] theorem State.emit_cdromTime (s : State) (e : Event) :
    (State.emit s e).cdromTime = s.cdromTime := rfl
@[simp] theorem State.emit_spuTime (s : State) (e : Event) :
    (State.emit s e).spuTime = s.spuTime := rfl
@[simp] theorem State.emit_exp1Time (s : State) (e : Event) :
    (State.emit s e).exp1Time = s.exp1Time := rfl
@[simp] theorem State.emit_exp2Time (s : State) (e : Event) :
    (State.emit s e).exp2Time = s.exp2Time := rfl
@[simp] theorem State.emit_ttyLine (s : State) (e : Event) :
    (State.emit s e).ttyLine = s.ttyLine := rfl
@[simp] theorem State.emit_timers (s : State) (e : Event) :
    (State.emit s e).timers = s.timers := rfl
@[simp] theorem State.emit_carry (s : State) (e : Event) :
    (State.emit s e).carry = s.carry := rfl
@[simp] theorem State.emit_downcount (s : State) (e : Event) :
    (State.emit s e).downcount = s.downcount := rfl
@[simp] theorem State.emit_trace (s : State) (e : Event) :
    (State.emit s e).trace = s.trace ++ [e] := rfl
@[simp] theorem State.emit_inbox (s : State) (e : Event) :
    (State.emit s e).inbox = s.inbox := rfl
@[simp] theorem State.emit_payload (s : State) (e : Event) :
    (State.emit s e).payload = s.payload := rfl
@[simp] theorem State.emit_response (s : State) (e : Event) :
    (State.emit s e).response = s.response := rfl
@[simp] theorem State.emit_saved (s : State) (e : Event) :
    (State.emit s e).saved = s.saved := rfl
@[simp] theorem State.emit_answers (s : State) (e : Event) :
    (State.emit s e).answers = s.answers := rfl
@[simp] theorem State.emit_collabReads (s : State) (e : Event) :
    (State.emit s e).collabReads = s.collabReads := rfl
@[simp] theorem State.emit_platform (s : State) (e : Event) :
    (State.emit s e).platform = s.platform := rfl

@[simp] theorem State.setTimer_ram (s : State) (i : TimerId) (t : Timer) :
    (State.setTimer s i t).ram = s.ram := rfl
@[simp] theorem State.setTimer_scratch (s : State) (i : TimerId) (t : Timer) :
    (State.setTimer s i t).scratch = s.scratch := rfl
@[simp] theorem State.setTimer_bios (s : State) (i : TimerId) (t : Timer) :
    (State.setTimer s i t).bios = s.bios := rfl
@[simp] theorem State.setTimer_exp1Rom (s : State) (i : TimerId) (t : Timer) :
    (State.setTimer s i t).exp1Rom = s.exp1Rom := rfl
@[simp] theorem State.setTimer_memctrl (s : State) (i : TimerId) (t : Timer) :
    (State.setTimer s i t).memctrl = s.memctrl := rfl
@[simp] theorem State.setTimer_ramSizeReg (s : State) (i : TimerId) (t : Timer) :
    (State.setTimer s i t).ramSizeReg = s.ramSizeReg := rfl
@[simp] theorem State.setTimer_biosTime (s : State) (i : TimerId) (t : Timer) :
    (State.setTimer s i t).biosTime = s.biosTime := rfl
@[simp] theorem State.setTimer_cdromTime (s : State) (i : TimerId) (t : Timer) :
    (State.setTimer s i t).cdromTime = s.cdromTime := rfl
@[simp] theorem State.setTimer_spuTime (s : State) (i : TimerId) (t : Timer) :
    (State.setTimer s i t).spuTime = s.spuTime := rfl
@[simp] theorem State.setTimer_exp1Time (s : State) (i : TimerId) (t : Timer) :
    (State.setTimer s i t).exp1Time = s.exp1Time := rfl
@[simp] theorem State.setTimer_exp2Time (s : State) (i : TimerId) (t : Timer) :
    (State.setTimer s i t).exp2Time = s.exp2Time := rfl
@[simp] theorem State.setTimer_ttyLine (s : State) (i : TimerId) (t : Timer) :
    (State.setTimer s i t).ttyLine = s.ttyLine := rfl
@[simp] theorem State.setTimer_timers (s : State) (i : TimerId) (t : Timer) :
    (State.setTimer s i t).timers = Timers.set s.timers i t := rfl
@[simp] theorem State.setTimer_carry (s : State) (i : TimerId) (t : Timer) :
    (State.setTimer s i t).carry = s.carry := rfl
@[simp] theorem State.setTimer_downcount (s : State) (i : TimerId) (t : Timer) :
    (State.setTimer s i t).downcount = s.downcount := rfl
@[simp] theorem State.setTimer_trace (s : State) (i : TimerId) (t : Timer) :
    (State.setTimer s i t).trace = s.trace := rfl
@[simp] theorem State.setTimer_inbox (s : State) (i : TimerId) (t : Timer) :
    (State.setTimer s i t).inbox = s.inbox := rfl
@[simp] theorem State.setTimer_payload (s : State) (i : TimerId) (t : Timer) :
    (State.setTimer s i t).payload = s.payload := rfl
@[simp] theorem State.setTimer_response (s : State) (i : TimerId) (t : Timer) :
    (State.setTimer s i t).response = s.response := rfl
@[simp] theorem State.setTimer_saved (s : State) (i : TimerId) (t : Timer) :
    (State.setTimer s i t).saved = s.saved := rfl
@[simp] theorem State.setTimer_answers (s : State) (i : TimerId) (t : Timer) :
    (State.setTimer s i t).answers = s.answers := rfl
@[simp] theorem State.setTimer_collabReads (s : State) (i : TimerId) (t : Timer) :
    (State.setTimer s i t).collabReads = s.collabReads := rfl
@[simp] theorem State.setTimer_platform (s : State) (i : TimerId) (t : Timer) :
    (State.setTimer s i t).platform = s.platform := rfl

@[simp] theorem State.afterCollabRead_ram (s : State) (c : Collab) (o : Nat) (z : Size) :
    (State.afterCollabRead s c o z).ram = s.ram := rfl
@[simp] theorem State.afterCollabRead_scratch (s : State) (c : Collab) (o : Nat) (z : Size) :
    (State.afterCollabRead s c o z).scratch = s.scratch := rfl
@[simp] theorem State.afterCollabRead_bios (s : State) (c : Collab) (o : Nat) (z : Size) :
    (State.afterCollabRead s c o z).bios = s.bios := rfl
@[simp] theorem State.afterCollabRead_exp1Rom (s : State) (c : Collab) (o : Nat) (z : Size) :
    (State.afterCollabRead s c o z).exp1Rom = s.exp1Rom := rfl
@[simp] theorem State.afterCollabRead_memctrl (s : State) (c : Collab) (o : Nat) (z : Size) :
    (State.afterCollabRead s c o z).memctrl = s.memctrl := rfl
@[simp] theorem State.afterCollabRead_ramSizeReg (s : State) (c : Collab) (o : Nat) (z : Size) :
    (State.afterCollabRead s c o z).ramSizeReg = s.ramSizeReg := rfl
@[simp] theorem State.afterCollabRead_biosTime (s : State) (c : Collab) (o : Nat) (z : Size) :
    (State.afterCollabRead s c o z).biosTime = s.biosTime := rfl
@[simp] theorem State.afterCollabRead_cdromTime (s : State) (c : Collab) (o : Nat) (z : Size) :
    (State.afterCollabRead s c o z).cdromTime = s.cdromTime := rfl
@[simp] theorem State.afterCollabRead_spuTime (s : State) (c : Collab) (o : Nat) (z : Size) :
    (State.afterCollabRead s c o z).spuTime = s.spuTime := rfl
@[simp] theorem State.afterCollabRead_exp1Time (s : State) (c : Collab) (o : Nat) (z : Size) :
    (State.afterCollabRead s c o z).exp1Time = s.exp1Time := rfl
@[simp] theorem State.afterCollabRead_exp2Time (s : State) (c : Collab) (o : Nat) (z : Size) :
    (State.afterCollabRead s c o z).exp2Time = s.exp2Time := rfl
@[simp] theorem State.afterCollabRead_ttyLine (s : State) (c : Collab) (o : Nat) (z : Size) :
    (State.afterCollabRead s c o z).ttyLine = s.ttyLine := rfl
@[simp] theorem State.afterCollabRead_timers (s : State) (c : Collab) (o : Nat) (z : Size) :
    (State.afterCollabRead s c o z).timers = s.timers := rfl
@[simp] theorem State.afterCollabRead_carry (s : State) (c : Collab) (o : Nat) (z : Size) :
    (State.afterCollabRead s c o z).carry = s.carry := rfl
@[simp] theorem State.afterCollabRead_downcount (s : State) (c : Collab) (o : Nat) (z : Size) :
    (State.afterCollabRead s c o z).downcount = s.downcount := rfl
@[simp] theorem State.afterCollabRead_trace (s : State) (c : Collab) (o : Nat) (z : Size) :
    (State.afterCollabRead s c o z).trace = s.trace ++ [.collabRead c o z] := rfl
@[simp] theorem State.afterCollabRead_inbox (s : State) (c : Collab) (o : Nat) (z : Size) :
    (State.afterCollabRead s c o z).inbox = s.inbox := rfl
@[simp] theorem State.afterCollabRead_payload (s : State) (c : Collab) (o : Nat) (z : Size) :
    (State.afterCollabRead s c o z).payload = s.payload := rfl
@[simp] theorem State.afterCollabRead_response (s : State) (c : Collab) (o : Nat) (z : Size) :
    (State.afterCollabRead s c o z).response = s.response := rfl
@[simp] theorem State.afterCollabRead_saved (s : State) (c : Collab) (o : Nat) (z : Size) :
    (State.afterCollabRead s c o z).saved = s.saved := rfl
@[simp] theorem State.afterCollabRead_answers (s : State) (c : Collab) (o : Nat) (z : Size) :
    (State.afterCollabRead s c o z).answers = s.answers.tail := rfl
@[simp] theorem State.afterCollabRead_collabReads (s : State) (c : Collab) (o : Nat) (z : Size) :
    (State.afterCollabRead s c o z).collabReads = s.collabReads + 1 := rfl
@[simp] theorem State.afterCollabRead_platform (s : State) (c : Collab) (o : Nat) (z : Size) :
    (State.afterCollabRead s c o z).platform = s.platform := rfl

@[simp] theorem State.collabWrite_ram (s : State) (c : Collab) (o : Nat) (z : Size) (v : Word) :
    (State.collabWrite s c o z v).ram = s.ram := rfl
@[simp] theorem State.collabWrite_scratch (s : State) (c : Collab) (o : Nat) (z : Size) (v : Word) :
    (State.collabWrite s c o z v).scratch = s.scratch := rfl
@[simp] theorem State.collabWrite_bios (s : State) (c : Collab) (o : Nat) (z : Size) (v : Word) :
    (State.collabWrite s c o z v).bios = s.bios := rfl
@[simp] theorem State.collabWrite_exp1Rom (s : State) (c : Collab) (o : Nat) (z : Size) (v : Word) :
    (State.collabWrite s c o z v).exp1Rom = s.exp1Rom := rfl
@[simp] theorem State.collabWrite_memctrl (s : State) (c : Collab) (o : Nat) (z : Size) (v : Word) :
    (State.collabWrite s c o z v).memctrl = s.memctrl := rfl
@[simp] theorem State.collabWrite_ramSizeReg (s : State) (c : Collab) (o : Nat) (z : Size) (v : Word) :
    (State.collabWrite s c o z v).ramSizeReg = s.ramSizeReg := rfl
@[simp] theorem State.collabWrite_biosTime (s : State) (c : Collab) (o : Nat) (z : Size) (v : Word) :
    (State.collabWrite s c o z v).biosTime = s.biosTime := rfl
@[simp] theorem State.collabWrite_cdromTime (s : State) (c : Collab) (o : Nat) (z : Size) (v : Word) :
    (State.collabWrite s c o z v).cdromTime = s.cdromTime := rfl
@[simp] theorem State.collabWrite_spuTime (s : State) (c : Collab) (o : Nat) (z : Size) (v : Word) :
    (State.collabWrite s c o z v).spuTime = s.spuTime := rfl
@[simp] theorem State.collabWrite_exp1Time (s : State) (c : Collab) (o : Nat) (z : Size) (v : Word) :
    (State.collabWrite s c o z v).exp1Time = s.exp1Time := rfl
@[simp] theorem State.collabWrite_exp2Time (s : State) (c : Collab) (o : Nat) (z : Size) (v : Word) :
    (State.collabWrite s c o z v).exp2Time = s.exp2Time := rfl
@[simp] theorem State.collabWrite_ttyLine (s : State) (c : Collab) (o : Nat) (z : Size) (v : Word) :
    (State.collabWrite s c o z v).ttyLine = s.ttyLine := rfl
@[simp] theorem State.collabWrite_timers (s : State) (c : Collab) (o : Nat) (z : Size) (v : Word) :
    (State.collabWrite s c o z v).timers = s.timers := rfl
@[simp] theorem State.collabWrite_carry (s : State) (c : Collab) (o : Nat) (z : Size) (v : Word) :
    (State.collabWrite s c o z v).carry = s.carry := rfl
@[simp] theorem State.collabWrite_downcount (s : State) (c : Collab) (o : Nat) (z : Size) (v : Word) :
    (State.collabWrite s c o z v).downcount = s.downcount := rfl
@[simp] theorem State.collabWrite_trace (s : State) (c : Collab) (o : Nat) (z : Size) (v : Word) :
    (State.collabWrite s c o z v).trace = s.trace ++ [.collabWrite c o z v] := rfl
@[simp] theorem State.collabWrite_inbox (s : State) (c : Collab) (o : Nat) (z : Size) (v : Word) :
    (State.collabWrite s c o z v).inbox = s.inbox := rfl
@[simp] theorem State.collabWrite_payload (s : State) (c : Collab) (o : Nat) (z : Size) (v : Word) :
    (State.collabWrite s c o z v).payload = s.payload := rfl
@[simp] theorem State.collabWrite_response (s : State) (c : Collab) (o : Nat) (z : Size) (v : Word) :
    (State.collabWrite s c o z v).response = s.response := rfl
@[simp] theorem State.collabWrite_saved (s : State) (c : Collab) (o : Nat) (z : Size) (v : Word) :
    (State.collabWrite s c o z v).saved = s.saved := rfl
@[simp] theorem State.collabWrite_answers (s : State) (c : Collab) (o : Nat) (z : Size) (v : Word) :
    (State.collabWrite s c o z v).answers = s.answers := rfl
@[simp] theorem State.collabWrite_collabReads (s : State) (c : Collab) (o : Nat) (z : Size) (v : Word) :
    (State.collabWrite s c o z v).collabReads = s.collabReads := rfl
@[simp] theorem State.collabWrite_platform (s : State) (c : Collab) (o : Nat) (z : Size) (v : Word) :
    (State.collabWrite s c o z v).platform = s.platform := rfl

@[simp] theorem State.recalculate_ram (s : State) :
    (State.recalculate s).ram = s.ram := rfl
@[simp] theorem State.recalculate_scratch (s : State) :
    (State.recalculate s).scratch = s.scratch := rfl
@[simp] theorem State.recalculate_bios (s : State) :
    (State.recalculate s).bios = s.bios := rfl
@[simp] theorem State.recalculate_exp1Rom (s : State) :
    (State.recalculate s).exp1Rom = s.exp1Rom := rfl
@[simp] theorem State.recalculate_memctrl (s : State) :
    (State.recalculate s).memctrl = s.memctrl := rfl
@[simp] theorem State.recalculate_ramSizeReg (s : State) :
    (State.recalculate s).ramSizeReg = s.ramSizeReg := rfl
@[simp] theorem State.recalculate_biosTime (s : State) :
    (State.recalculate s).biosTime = Platform.timing s.platform s.memctrl .biosDelay := rfl
@[simp] theorem State.recalculate_cdromTime (s : State) :
    (State.recalculate s).cdromTime = Platform.timing s.platform s.memctrl .cdromDelay := rfl
@[simp] theorem State.recalculate_spuTime (s : State) :
    (State.recalculate s).spuTime = Platform.timing s.platform s.memctrl .spuDelay := rfl
@[simp] theorem State.recalculate_exp1Time (s : State) :
    (State.recalculate s).exp1Time = s.exp1Time := rfl
@[simp] theorem State.recalculate_exp2Time (s : State) :
    (State.recalculate s).exp2Time = s.exp2Time := rfl
@[simp] theorem State.recalculate_ttyLine (s : State) :
    (State.recalculate s).ttyLine = s.ttyLine := rfl
@[simp] theorem State.recalculate_timers (s : State) :
    (State.recalculate s).timers = s.timers := rfl
@[simp] theorem State.recalculate_carry (s : State) :
    (State.recalculate s).carry = s.carry := rfl
@[simp] theorem State.recalculate_downcount (s : State) :
    (State.recalculate s).downcount = s.downcount := rfl
@[simp] theorem State.recalculate_trace (s : State) :
    (State.recalculate s).trace = s.trace := rfl
@[simp] theorem State.recalculate_inbox (s : State) :
    (State.recalculate s).inbox = s.inbox := rfl
@[simp] theorem State.recalculate_payload (s : State) :
    (State.recalculate s).payload = s.payload := rfl
@[simp] theorem State.recalculate_response (s : State) :
    (State.recalculate s).response = s.response := rfl
@[simp] theorem State.recalculate_saved (s : State) :
    (State.recalculate s).saved = s.saved := rfl
@[simp] theorem State.recalculate_answers (s : State) :
    (State.recalculate s).answers = s.answers := rfl
@[simp] theorem State.recalculate_collabReads (s : State) :
    (State.recalculate s).collabReads = s.collabReads := rfl
@[simp] theorem State.recalculate_platform (s : State) :
    (State.recalculate s).platform = s.platform := rfl

@[simp] theorem State.restore_ram (s : State) (n : Snapshot) :
    (State.restore s n).ram = n.ram.cells := rfl
@[simp] theorem State.restore_scratch (s : State) (n : Snapshot) :
    (State.restore s n).scratch = n.scratch.cells := rfl
@[simp] theorem State.restore_bios (s : State) (n : Snapshot) :
    (State.restore s n).bios = n.bios.cells := rfl
@[simp] theorem State.restore_exp1Rom (s : State) (n : Snapshot) :
    (State.restore s n).exp1Rom = s.exp1Rom := rfl
@[simp] theorem State.restore_memctrl (s : State) (n : Snapshot) :
    (State.restore s n).memctrl = n.memctrl := rfl
@[simp] theorem State.restore_ramSizeReg (s : State) (n : Snapshot) :
    (State.restore s n).ramSizeReg = n.ramSizeReg := rfl
@[simp] theorem State.restore_biosTime (s : State) (n : Snapshot) :
    (State.restore s n).biosTime = n.biosTime := rfl
@[simp] theorem State.restore_cdromTime (s : State) (n : Snapshot) :
    (State.restore s n).cdromTime = n.cdromTime := rfl
@[simp] theorem State.restore_spuTime (s : State) (n : Snapshot) :
    (State.restore s n).spuTime = n.spuTime := rfl
@[simp] theorem State.restore_exp1Time (s : State) (n : Snapshot) :
    (State.restore s n).exp1Time = n.exp1Time := rfl
@[simp] theorem State.restore_exp2Time (s : State) (n : Snapshot) :
    (State.restore s n).exp2Time = n.exp2Time := rfl
@[simp] theorem State.restore_ttyLine (s : State) (n : Snapshot) :
    (State.restore s n).ttyLine = n.ttyLine := rfl
@[simp] theorem State.restore_timers (s : State) (n : Snapshot) :
    (State.restore s n).timers = n.timers := rfl
@[simp] theorem State.restore_carry (s : State) (n : Snapshot) :
    (State.restore s n).carry = n.carry := rfl
@[simp] theorem State.restore_downcount (s : State) (n : Snapshot) :
    (State.restore s n).downcount = n.downcount := rfl
@[simp] theorem State.restore_trace (s : State) (n : Snapshot) :
    (State.restore s n).trace = s.trace := rfl
@[simp] theorem State.restore_inbox (s : State) (n : Snapshot) :
    (State.restore s n).inbox = s.inbox := rfl
@[simp] theorem State.restore_payload (s : State) (n : Snapshot) :
    (State.restore s n).payload = s.payload := rfl
@[simp] theorem State.restore_response (s : State) (n : Snapshot) :
    (State.restore s n).response = s.response := rfl
@[simp] theorem State.restore_saved (s : State) (n : Snapshot) :
    (State.restore s n).saved = s.saved := rfl
@[simp] theorem State.restore_answers (s : State) (n : Snapshot) :
    (State.restore s n).answers = s.answers := rfl
@[simp] theorem State.restore_collabReads (s : State) (n : Snapshot) :
    (State.restore s n).collabReads = s.collabReads := rfl
@[simp] theorem State.restore_platform (s : State) (n : Snapshot) :
    (State.restore s n).platform = s.platform := rfl

@[simp] theorem State.take_ram (s : State) (p : Presented) (r : List Presented) :
    (State.take s p r).ram = s.ram := rfl
@[simp] theorem State.take_scratch (s : State) (p : Presented) (r : List Presented) :
    (State.take s p r).scratch = s.scratch := rfl
@[simp] theorem State.take_bios (s : State) (p : Presented) (r : List Presented) :
    (State.take s p r).bios = s.bios := rfl
@[simp] theorem State.take_exp1Rom (s : State) (p : Presented) (r : List Presented) :
    (State.take s p r).exp1Rom = s.exp1Rom := rfl
@[simp] theorem State.take_memctrl (s : State) (p : Presented) (r : List Presented) :
    (State.take s p r).memctrl = s.memctrl := rfl
@[simp] theorem State.take_ramSizeReg (s : State) (p : Presented) (r : List Presented) :
    (State.take s p r).ramSizeReg = s.ramSizeReg := rfl
@[simp] theorem State.take_biosTime (s : State) (p : Presented) (r : List Presented) :
    (State.take s p r).biosTime = s.biosTime := rfl
@[simp] theorem State.take_cdromTime (s : State) (p : Presented) (r : List Presented) :
    (State.take s p r).cdromTime = s.cdromTime := rfl
@[simp] theorem State.take_spuTime (s : State) (p : Presented) (r : List Presented) :
    (State.take s p r).spuTime = s.spuTime := rfl
@[simp] theorem State.take_exp1Time (s : State) (p : Presented) (r : List Presented) :
    (State.take s p r).exp1Time = s.exp1Time := rfl
@[simp] theorem State.take_exp2Time (s : State) (p : Presented) (r : List Presented) :
    (State.take s p r).exp2Time = s.exp2Time := rfl
@[simp] theorem State.take_ttyLine (s : State) (p : Presented) (r : List Presented) :
    (State.take s p r).ttyLine = s.ttyLine := rfl
@[simp] theorem State.take_timers (s : State) (p : Presented) (r : List Presented) :
    (State.take s p r).timers = s.timers := rfl
@[simp] theorem State.take_carry (s : State) (p : Presented) (r : List Presented) :
    (State.take s p r).carry = s.carry := rfl
@[simp] theorem State.take_downcount (s : State) (p : Presented) (r : List Presented) :
    (State.take s p r).downcount = s.downcount := rfl
@[simp] theorem State.take_trace (s : State) (p : Presented) (r : List Presented) :
    (State.take s p r).trace = s.trace := rfl
@[simp] theorem State.take_inbox (s : State) (p : Presented) (r : List Presented) :
    (State.take s p r).inbox = r := rfl
@[simp] theorem State.take_payload (s : State) (p : Presented) (r : List Presented) :
    (State.take s p r).payload = p.payload := rfl
@[simp] theorem State.take_response (s : State) (p : Presented) (r : List Presented) :
    (State.take s p r).response = s.response := rfl
@[simp] theorem State.take_saved (s : State) (p : Presented) (r : List Presented) :
    (State.take s p r).saved = s.saved := rfl
@[simp] theorem State.take_answers (s : State) (p : Presented) (r : List Presented) :
    (State.take s p r).answers = s.answers := rfl
@[simp] theorem State.take_collabReads (s : State) (p : Presented) (r : List Presented) :
    (State.take s p r).collabReads = s.collabReads := rfl
@[simp] theorem State.take_platform (s : State) (p : Presented) (r : List Presented) :
    (State.take s p r).platform = s.platform := rfl

/-- The four ends of an operation are responses. -/
@[simp] theorem State.refuse_eq_respond (s : State) (r : RefuseReason) :
    State.refuse s r = State.respond s (.refused r) 0 0 := rfl

@[simp] theorem State.done_eq_respond (s : State) :
    State.done s = State.respond s .ok 0 0 := rfl

@[simp] theorem State.served_read (s : State) (z : Size) (v p d : Word) (k : Nat) :
    State.served s ⟨.read, z, v, p⟩ d k = State.respond s .ok d k := rfl

@[simp] theorem State.served_write (s : State) (z : Size) (v p d : Word) (k : Nat) :
    State.served s ⟨.write, z, v, p⟩ d k = State.respond s .ok 0 k := rfl

@[simp] theorem State.invalid_read (s : State) (z : Size) (v p : Word) :
    State.invalid s ⟨.read, z, v, p⟩ = State.respond s .invalid (ones z) 1 := rfl

@[simp] theorem State.invalid_write (s : State) (z : Size) (v p : Word) :
    State.invalid s ⟨.write, z, v, p⟩ = State.respond s .invalid 0 1 := rfl

/-- A second response replaces the first. -/
@[simp] theorem State.respond_respond (s : State) (a b : Status) (c d : Word) (j k : Nat) :
    State.respond (State.respond s a c j) b d k = State.respond s b d k := rfl

theorem Timers.get_set_same (ts : Timers) (i : TimerId) (t : Timer) :
    Timers.get (Timers.set ts i t) i = t := by
  cases i <;> rfl

theorem Timers.get_set_other (ts : Timers) (i j : TimerId) (t : Timer) (h : j ≠ i) :
    Timers.get (Timers.set ts i t) j = Timers.get ts j := by
  cases i <;> cases j <;> first | rfl | exact absurd rfl h

@[simp] theorem Timers.set_get (ts : Timers) (i : TimerId) : Timers.set ts i (Timers.get ts i) = ts := by
  cases i <;> rfl

@[simp] theorem State.timer_setTimer_same (s : State) (i : TimerId) (t : Timer) :
    State.timer (State.setTimer s i t) i = t :=
  Timers.get_set_same s.timers i t

theorem State.timer_setTimer_other (s : State) (i j : TimerId) (t : Timer) (h : j ≠ i) :
    State.timer (State.setTimer s i t) j = State.timer s j :=
  Timers.get_set_other s.timers i j t h

@[simp] theorem State.setTimer_timer (s : State) (i : TimerId) :
    State.setTimer s i (State.timer s i) = s := by
  cases i <;> rfl

theorem MemCtrl.get_set_same (m : MemCtrl) (r : McReg) (w : Word) :
    MemCtrl.get (MemCtrl.set m r w) r = w := by
  cases r <;> rfl

theorem MemCtrl.get_set_other (m : MemCtrl) (r q : McReg) (w : Word) (h : q ≠ r) :
    MemCtrl.get (MemCtrl.set m r w) q = MemCtrl.get m q := by
  cases r <;> cases q <;> first | rfl | exact absurd rfl h

end Sys2Proof.Machine
end

