-- ==== Sys2Proof/Laws/Ops.lean ====
section
/-! SUPPORT. What each shared operation can do, said once: the guard of a request, little-endian loads,
the tick pump and the synchronize call-back. -/

namespace Sys2Proof.Machine

/-- A guarded request is refused for its `pend`, refused as misaligned, or served. -/
theorem guardRequest_cases (ad : Bool) (pa : Nat) (x : Access) (f : State → State) (s : State) :
    (pendOk x.pend = false ∧ guardRequest ad pa x f s = State.refuse s .reservedOp) ∨
    (pendOk x.pend = true ∧ ad = false ∧ aligned x.size pa = false ∧
      guardRequest ad pa x f s = State.refuse s .misaligned) ∨
    (pendOk x.pend = true ∧ (ad = true ∨ aligned x.size pa = true) ∧
      guardRequest ad pa x f s = f s) := by
  unfold guardRequest
  cases pendOk x.pend <;> cases ad <;> cases aligned x.size pa <;> simp

/-- A request that carries no reserved value and needs no alignment, or has it, is served. -/
theorem guardRequest_serves {ad : Bool} {pa : Nat} {x : Access} {f : State → State} {s : State}
    (hp : pendOk x.pend = true) (ha : ad = true ∨ aligned x.size pa = true) :
    guardRequest ad pa x f s = f s := by
  unfold guardRequest
  rcases ha with ha | ha <;> simp [hp, ha]

theorem guardRequest_reserved {ad : Bool} {pa : Nat} {x : Access} {f : State → State} {s : State}
    (hp : pendOk x.pend = false) : guardRequest ad pa x f s = State.refuse s .reservedOp := by
  simp [guardRequest, hp]

theorem guardRequest_misaligned {pa : Nat} {x : Access} {f : State → State} {s : State}
    (hp : pendOk x.pend = true) (ha : aligned x.size pa = false) :
    guardRequest false pa x f s = State.refuse s .misaligned := by
  simp [guardRequest, hp, ha]

/-- Only the address modulo 4 matters to the guard. -/
theorem guardRequest_congr {ad : Bool} {pa pa' : Nat} {x : Access} {f : State → State} {s : State}
    (h : pa % 4 = pa' % 4) : guardRequest ad pa x f s = guardRequest ad pa' x f s := by
  have : aligned x.size pa = aligned x.size pa' := by
    unfold aligned
    cases x.size <;> simp only [nbytes] <;> congr 1 <;> omega
  simp [guardRequest, this]

/-- An aligned access ends inside any store whose size is a multiple of 4. -/
theorem aligned_end_le {z : Size} {off size : Nat} (h : aligned z off = true) (hlt : off < size)
    (h4 : size % 4 = 0) : off + nbytes z ≤ size := by
  unfold aligned at h
  cases z <;> simp only [nbytes, beq_iff_eq] at h ⊢ <;> omega

theorem append_byte_toNat {w : Nat} (x : BitVec w) (y : Byte) :
    (x ++ y).toNat = x.toNat * 256 + y.toNat := by
  have := y.isLt
  rw [BitVec.toNat_append, ← Nat.shiftLeft_add_eq_or_of_lt this, Nat.shiftLeft_eq]

/-- `StoreRead` of a request's size is the little-endian value of the bytes. -/
theorem loadWord_eq_littleEndian (rd : Nat → Byte) (off : Nat) (z : Size) :
    loadWord rd off z = littleEndian rd off z := by
  apply BitVec.eq_of_toNat_eq
  have h0 := (rd off).isLt
  have h1 := (rd (off + 1)).isLt
  have h2 := (rd (off + 2)).isLt
  have h3 := (rd (off + 3)).isLt
  cases z <;>
    simp only [loadWord, littleEndian, nbytes, storeRead, append_byte_toNat, BitVec.toNat_ofNat,
      BitVec.toNat_setWidth, Nat.add_assoc, Nat.reduceAdd] <;> omega

/-- The ticks and the request of one `AddTicks` on the state. -/
theorem State.addTicks_eq (s : State) (i : TimerId) (n : Nat) :
    State.addTicks s i n =
      { s with
        timers := Timers.set s.timers i (Machine.addTicks (Timers.get s.timers i) n).1
        trace := s.trace ++ requested s.platform i (Timers.get s.timers i) (some n) } := by
  unfold State.addTicks State.timer requested
  cases h : (Machine.addTicks (Timers.get s.timers i) n).2 <;> simp [h, State.emit, State.setTimer]

/-- The clock selection is the mode bit R37 names. -/
theorem useExternalClock_eq_table (i : TimerId) (t : Timer) :
    useExternalClock i t = externalByTable i t := by
  cases i <;> simp [useExternalClock, externalByTable, Timer.clockSource]

/-- The enable flag is the table of R38. -/
theorem countingEnabled_eq_table (t : Timer) : countingEnabled t = countsByTable t := by
  have hm : (Timer.syncMode t).toNat =
      2 * (t.mode.getLsbD 2).toNat + (t.mode.getLsbD 1).toNat := by
    rw [Timer.syncMode, BitVec.extractLsb'_toNat, Nat.shiftRight_eq_div_pow]
    simp only [BitVec.getLsbD, Nat.toNat_testBit]
    omega
  unfold countingEnabled countsByTable Timer.syncEnable
  rw [hm]
  cases t.mode.getLsbD 0 <;> cases t.mode.getLsbD 2 <;> cases t.mode.getLsbD 1 <;> rfl

theorem ticksReceived_pump (s : State) (n : Nat) (i : TimerId) (h : i ≠ .t2) :
    State.pumpSysclk s i n =
      { s with
        timers := Timers.set s.timers i (advanced (Timers.get s.timers i) (ticksReceived s n i))
        trace := s.trace ++ requested s.platform i (Timers.get s.timers i) (ticksReceived s n i) } := by
  have key : (countingEnabled (Timers.get s.timers i) &&
      !externalCounting i (Timers.get s.timers i)) =
      (countsByTable (Timers.get s.timers i) && !externalByTable i (Timers.get s.timers i)) := by
    rw [externalCounting, countingEnabled_eq_table, useExternalClock_eq_table]
    cases countsByTable (Timers.get s.timers i) <;> simp
  have hr : ticksReceived s n i = if (countsByTable (Timers.get s.timers i) &&
      !externalByTable i (Timers.get s.timers i)) = true then some n else none := by
    cases i
    · rfl
    · rfl
    · exact absurd rfl h
  rw [State.pumpSysclk, State.timer, key, hr]
  split
  · rw [State.addTicks_eq]; rfl
  · simp [advanced, requested]

/-- `Execute(n)` gives each timer the ticks of `ticksReceived` and publishes the downcount. -/
theorem State.execute_eq (s : State) (n : Nat) : State.execute s n = executed s n := by
  rw [State.execute, ticksReceived_pump s n .t0 (by decide), ticksReceived_pump _ n .t1 (by decide)]
  have key : ∀ u : State, State.pumpTimer2 u n =
      { u with
        timers := Timers.set u.timers .t2 (advanced u.timers.t2 (ticksReceived u n .t2))
        carry := carryAfter u n
        trace := u.trace ++ requested u.platform .t2 u.timers.t2 (ticksReceived u n .t2) } := by
    intro u
    have ht : State.timer u .t2 = u.timers.t2 := rfl
    rw [State.pumpTimer2, ht, externalCounting, countingEnabled_eq_table, useExternalClock_eq_table,
      carryAfter, ticksReceived]
    cases hc : countsByTable u.timers.t2 <;> cases he : externalByTable .t2 u.timers.t2 <;>
      simp only [State.addTicks_eq, advanced, requested, Timers.get, Timers.set, Bool.and_true,
        Bool.and_false, Bool.not_true, Bool.not_false, Bool.false_eq_true, if_true, if_false,
        List.append_nil] <;> rfl
  rw [key]
  simp [State.publishDowncount, State.emit, executed, timersAfter, carryAfter, executeEvents,
    Timers.set, Timers.get, ticksReceived, List.append_assoc]

/-- `Synchronize(pend)` emits its event and, for pending ticks, runs one `Execute`. -/
theorem State.synchronize_eq (s : State) (pend : Nat) :
    State.synchronize s pend = synchronized s pend := by
  unfold State.synchronize synchronized State.emit
  by_cases h : pend = 0
  · simp [h]
  · rw [if_pos (Nat.pos_of_ne_zero h), if_neg h]
    exact State.execute_eq _ _

/-- The state a port is observed in. -/
theorem State.portReady_eq (s : State) (p : TimerPort) (pend : Word) :
    State.portReady s p pend =
      if portSynchronizes p then synchronized s pend.toNat else s := by
  unfold State.portReady
  rw [State.synchronize_eq]

/-- Byte `k` of a word is the word shifted right by `k` bytes. -/
theorem ofNat_div_eq_byteOf (v : Word) (k : Nat) :
    BitVec.ofNat 8 (v.toNat / 256 ^ k) = byteOf v k := by
  apply BitVec.eq_of_toNat_eq
  rw [byteOf, BitVec.extractLsb'_toNat, BitVec.toNat_ofNat, Nat.shiftRight_eq_div_pow, Nat.pow_mul]

/-- What `StoreWrite` of the low `n` bytes of a word leaves. -/
theorem storedInto_storeWrite {m : Memory} (h : Memory.wf m = true) (off : Nat) (v : Word) (n : Nat) :
    StoredInto m (storeWrite m off v.toNat n) off v n := by
  refine ⟨wf_storeWrite h, fun k hk => ?_, fun a ha => ?_⟩
  · rw [read_storeWrite h, if_pos (by omega), Nat.add_sub_cancel_left]
    exact ofNat_div_eq_byteOf v k
  · rw [read_storeWrite h, if_neg (by omega)]

/-- What the read-modify-write of one BIOS word leaves. -/
theorem storedInto_patchWord {m : Memory} (h : Memory.wf m = true) (off : Nat) (value mask : Word) :
    StoredInto m (patchWord m off value mask) off
      ((littleEndian (Memory.read m) off .word &&& ~~~mask) ||| value) 4 := by
  rw [← loadWord_eq_littleEndian]
  exact storedInto_storeWrite h off _ 4

/-- A stored word reads back. -/
theorem littleEndian_of_storedInto {before after : Memory} {off : Nat} {v : Word}
    (h : StoredInto before after off v 4) : littleEndian (Memory.read after) off .word = v := by
  have h0 : Memory.read after off = byteOf v 0 := h.2.1 0 (by decide)
  simp only [littleEndian, h.2.1 1 (by decide), h.2.1 2 (by decide), h.2.1 3 (by decide), h0]
  apply BitVec.eq_of_toNat_eq
  have := v.isLt
  simp only [append_byte_toNat, byteOf, BitVec.extractLsb'_toNat, Nat.shiftRight_eq_div_pow]
  omega

end Sys2Proof.Machine
end

