-- ==== Sys2Proof/Laws/PerInstr.lean ====
section
/-! SUPPORT. Statements made per instruction: every encoding matches its row of `spec/opcode_table.json`
(`30_encoding.md` R92, R100, R101, R110), each row's mask and match written out from the table. -/

namespace Sys2Proof.Laws

/-- The carrier is in the row's format and `bits & mask = match`. -/
def InTableRow (k : Carrier) (form : Form) (mask rowMatch : Nat) : Prop :=
  k.form = form ∧ k.bits.toNat &&& mask = rowMatch

/-- The mask of address bits 28 to `lo` keeps those bits. -/
theorem and_rowMask (n lo : Nat) (h : lo ≤ 29) :
    n &&& (2 ^ (29 - lo) - 1) <<< lo = n % 2 ^ 29 / 2 ^ lo * 2 ^ lo := by
  rw [← Nat.shiftRight_eq_div_pow, ← Nat.shiftLeft_eq]
  apply Nat.eq_of_testBit_eq
  intro i
  simp only [Nat.testBit_and, Nat.testBit_shiftLeft, Nat.testBit_two_pow_sub_one,
    Nat.testBit_shiftRight, Nat.testBit_mod_two_pow]
  by_cases h1 : lo ≤ i
  · have : lo + (i - lo) = i := by omega
    simp only [h1, decide_true, Bool.true_and, this]
    by_cases h2 : i < 29
    · simp [h2, show i - lo < 29 - lo by omega]
    · simp [h2, show ¬ i - lo < 29 - lo by omega]
  · simp [h1]

/-- The operation code of a packet stands in its top four bits. -/
theorem packetForm_inRow (op : BitVec 4) (a b c : Word) (rowMatch : Nat)
    (h : op.toNat * 2 ^ 96 = rowMatch) :
    InTableRow (packetForm op a b c) .packet 0xF000000000000000000000000 rowMatch := by
  refine ⟨rfl, ?_⟩
  have ho := op.isLt
  have key : (packetForm op a b c).bits.toNat / 2 ^ 96 = op.toNat := by
    have := a.isLt; have := b.isLt; have := c.isLt
    simp only [packetForm, toNat_append_mul]
    omega
  have split : (packetForm op a b c).bits.toNat &&& (2 ^ 4 - 1) <<< 96
      = (packetForm op a b c).bits.toNat / 2 ^ 96 % 2 ^ 4 * 2 ^ 96 := by
    rw [← Nat.shiftRight_eq_div_pow, ← Nat.shiftLeft_eq]
    apply Nat.eq_of_testBit_eq
    intro i
    simp only [Nat.testBit_and, Nat.testBit_shiftLeft, Nat.testBit_two_pow_sub_one,
      Nat.testBit_shiftRight, Nat.testBit_mod_two_pow]
    by_cases h1 : 96 ≤ i
    · have : 96 + (i - 96) = i := by omega
      simp [h1, this, Bool.and_comm]
    · simp [h1]
  have mask : (0xF000000000000000000000000 : Nat) = (2 ^ 4 - 1) <<< 96 := by decide
  rw [mask, split, key, Nat.mod_eq_of_lt ho, h]

/-- The address of a row with low bits below `2 ^ lo` matches the row. -/
theorem addressForm_inRow (form : Form) (seg : BitVec 3) (lo rowMatch low : Nat) (x : Access)
    (mask : Nat) (hm : mask = (2 ^ (29 - lo) - 1) <<< lo) (hlo : lo ≤ 29) (hlow : low < 2 ^ lo)
    (hlt : rowMatch < 2 ^ 29) (hdvd : rowMatch % 2 ^ lo = 0) :
    InTableRow (addressForm form (rowAddress seg rowMatch low) x) form mask rowMatch := by
  refine ⟨rfl, ?_⟩
  have hq : rowMatch = rowMatch / 2 ^ lo * 2 ^ lo := (Nat.div_mul_cancel (Nat.dvd_of_mod_eq_zero hdvd)).symm
  have hsum : rowMatch + low < 0x20000000 := by
    have h29 : 2 ^ 29 = 2 ^ (29 - lo) * 2 ^ lo := by rw [← Nat.pow_add]; congr 1; omega
    have : rowMatch / 2 ^ lo + 1 ≤ 2 ^ (29 - lo) := by
      rw [h29] at hlt
      exact Nat.div_lt_of_lt_mul (by rwa [Nat.mul_comm] at hlt)
    have := Nat.mul_le_mul_right (2 ^ lo) this
    rw [Nat.add_mul, ← hq, Nat.one_mul, ← h29] at this
    omega
  have hmod : (addressForm form (rowAddress seg rowMatch low) x).bits.toNat % 2 ^ 29 = rowMatch + low := by
    have hs := seg.isLt
    simp only [addressForm, toNat_append_mul, rowAddress_toNat _ _ _ hsum]
    omega
  rw [hm, and_rowMask _ _ hlo, hmod, Nat.add_comm, hq, Nat.add_mul_div_right _ _ (Nat.two_pow_pos lo),
    Nat.div_eq_of_lt hlow, Nat.zero_add, ← hq]

end Sys2Proof.Laws

namespace Sys2Proof.Laws.EncodingMatchesTable

/-- The encoding of the operation matches its row of the opcode table. -/
def Statement : Instr → Prop
  | i@(.rb _ _) => InTableRow (encode i) .packet 0xF000000000000000000000000 0x0000000000000000000000000
  | i@(.rh _ _) => InTableRow (encode i) .packet 0xF000000000000000000000000 0x1000000000000000000000000
  | i@(.rw _ _) => InTableRow (encode i) .packet 0xF000000000000000000000000 0x2000000000000000000000000
  | i@(.reserved3) => InTableRow (encode i) .packet 0xF000000000000000000000000 0x3000000000000000000000000
  | i@(.wb _ _ _) => InTableRow (encode i) .packet 0xF000000000000000000000000 0x4000000000000000000000000
  | i@(.wh _ _ _) => InTableRow (encode i) .packet 0xF000000000000000000000000 0x5000000000000000000000000
  | i@(.ww _ _ _) => InTableRow (encode i) .packet 0xF000000000000000000000000 0x6000000000000000000000000
  | i@(.reserved7) => InTableRow (encode i) .packet 0xF000000000000000000000000 0x7000000000000000000000000
  | i@(.reset) => InTableRow (encode i) .packet 0xF000000000000000000000000 0x8000000000000000000000000
  | i@(.exec _) => InTableRow (encode i) .packet 0xF000000000000000000000000 0x9000000000000000000000000
  | i@(.gate _ _) => InTableRow (encode i) .packet 0xF000000000000000000000000 0xA000000000000000000000000
  | i@(.xclk _ _) => InTableRow (encode i) .packet 0xF000000000000000000000000 0xB000000000000000000000000
  | i@(.patch _ _ _) => InTableRow (encode i) .packet 0xF000000000000000000000000 0xC000000000000000000000000
  | i@(.exprom _) => InTableRow (encode i) .packet 0xF000000000000000000000000 0xD000000000000000000000000
  | i@(.save) => InTableRow (encode i) .packet 0xF000000000000000000000000 0xE000000000000000000000000
  | i@(.load) => InTableRow (encode i) .packet 0xF000000000000000000000000 0xF000000000000000000000000
  | i@(.regionRam _ _ _ _) => InTableRow (encode i) .region 0x1F800000 0x00000000
  | i@(.regionExp1 _ _ _) => InTableRow (encode i) .region 0x1F800000 0x1F000000
  | i@(.regionScratchpad _ _ _) => InTableRow (encode i) .region 0x1FFFFC00 0x1F800000
  | i@(.regionMemctrlA _ _ _) => InTableRow (encode i) .region 0x1FFFFFE0 0x1F801000
  | i@(.regionMemctrlB _ _ _) => InTableRow (encode i) .region 0x1FFFFFFC 0x1F801020
  | i@(.regionPad _ _ _) => InTableRow (encode i) .region 0x1FFFFFF0 0x1F801040
  | i@(.regionSio _ _ _) => InTableRow (encode i) .region 0x1FFFFFF0 0x1F801050
  | i@(.regionMemctrl2 _ _ _) => InTableRow (encode i) .region 0x1FFFFFFC 0x1F801060
  | i@(.regionIntc _ _ _) => InTableRow (encode i) .region 0x1FFFFFF8 0x1F801070
  | i@(.regionDma _ _ _) => InTableRow (encode i) .region 0x1FFFFF80 0x1F801080
  | i@(.regionTimersA _ _ _) => InTableRow (encode i) .region 0x1FFFFFE0 0x1F801100
  | i@(.regionTimersB _ _ _) => InTableRow (encode i) .region 0x1FFFFFF0 0x1F801120
  | i@(.regionCdrom _ _ _) => InTableRow (encode i) .region 0x1FFFFFFC 0x1F801800
  | i@(.regionGpu _ _ _) => InTableRow (encode i) .region 0x1FFFFFF8 0x1F801810
  | i@(.regionMdec _ _ _) => InTableRow (encode i) .region 0x1FFFFFF8 0x1F801820
  | i@(.regionSpuA _ _ _) => InTableRow (encode i) .region 0x1FFFFE00 0x1F801C00
  | i@(.regionSpuB _ _ _) => InTableRow (encode i) .region 0x1FFFFF80 0x1F801E00
  | i@(.regionExp2 _ _ _) => InTableRow (encode i) .region 0x1FFFE000 0x1F802000
  | i@(.regionBios _ _ _) => InTableRow (encode i) .region 0x1FF80000 0x1FC00000
  | i@(.portMemctrl0 _ _ _) => InTableRow (encode i) .port 0x1FFFFFFC 0x1F801000
  | i@(.portMemctrl1 _ _ _) => InTableRow (encode i) .port 0x1FFFFFFC 0x1F801004
  | i@(.portMemctrl2 _ _ _) => InTableRow (encode i) .port 0x1FFFFFFC 0x1F801008
  | i@(.portMemctrl3 _ _ _) => InTableRow (encode i) .port 0x1FFFFFFC 0x1F80100C
  | i@(.portMemctrl4 _ _ _) => InTableRow (encode i) .port 0x1FFFFFFC 0x1F801010
  | i@(.portMemctrl5 _ _ _) => InTableRow (encode i) .port 0x1FFFFFFC 0x1F801014
  | i@(.portMemctrl6 _ _ _) => InTableRow (encode i) .port 0x1FFFFFFC 0x1F801018
  | i@(.portMemctrl7 _ _ _) => InTableRow (encode i) .port 0x1FFFFFFC 0x1F80101C
  | i@(.portMemctrl8 _ _ _) => InTableRow (encode i) .port 0x1FFFFFFC 0x1F801020
  | i@(.portRamSizeReg _ _ _) => InTableRow (encode i) .port 0x1FFFFFFC 0x1F801060
  | i@(.portSioStat _ _) => InTableRow (encode i) .port 0x1FFFFFFF 0x1F801054
  | i@(.portT0Counter _ _ _) => InTableRow (encode i) .port 0x1FFFFFFC 0x1F801100
  | i@(.portT0Mode _ _ _) => InTableRow (encode i) .port 0x1FFFFFFC 0x1F801104
  | i@(.portT0Target _ _ _) => InTableRow (encode i) .port 0x1FFFFFFC 0x1F801108
  | i@(.portT0None _ _ _) => InTableRow (encode i) .port 0x1FFFFFFC 0x1F80110C
  | i@(.portT1Counter _ _ _) => InTableRow (encode i) .port 0x1FFFFFFC 0x1F801110
  | i@(.portT1Mode _ _ _) => InTableRow (encode i) .port 0x1FFFFFFC 0x1F801114
  | i@(.portT1Target _ _ _) => InTableRow (encode i) .port 0x1FFFFFFC 0x1F801118
  | i@(.portT1None _ _ _) => InTableRow (encode i) .port 0x1FFFFFFC 0x1F80111C
  | i@(.portT2Counter _ _ _) => InTableRow (encode i) .port 0x1FFFFFFC 0x1F801120
  | i@(.portT2Mode _ _ _) => InTableRow (encode i) .port 0x1FFFFFFC 0x1F801124
  | i@(.portT2Target _ _ _) => InTableRow (encode i) .port 0x1FFFFFFC 0x1F801128
  | i@(.portT2None _ _ _) => InTableRow (encode i) .port 0x1FFFFFFC 0x1F80112C
  | i@(.portExp1Ar _ _) => InTableRow (encode i) .port 0x1FFFFFFF 0x1F020018
  | i@(.portExp2TtyStatus _ _) => InTableRow (encode i) .port 0x1FFFFFFF 0x1F802021
  | i@(.portExp2TtyData _ _) => InTableRow (encode i) .port 0x1FFFFFFF 0x1F802023
  | i@(.portExp2Post _ _) => InTableRow (encode i) .port 0x1FFFFFFF 0x1F802041

theorem rb (a pend : Word) : Statement (.rb a pend) :=
  packetForm_inRow _ _ _ _ _ (by decide)

theorem rh (a pend : Word) : Statement (.rh a pend) :=
  packetForm_inRow _ _ _ _ _ (by decide)

theorem rw (a pend : Word) : Statement (.rw a pend) :=
  packetForm_inRow _ _ _ _ _ (by decide)

theorem reserved3 : Statement .reserved3 :=
  packetForm_inRow _ _ _ _ _ (by decide)

theorem wb (a b pend : Word) : Statement (.wb a b pend) :=
  packetForm_inRow _ _ _ _ _ (by decide)

theorem wh (a b pend : Word) : Statement (.wh a b pend) :=
  packetForm_inRow _ _ _ _ _ (by decide)

theorem ww (a b pend : Word) : Statement (.ww a b pend) :=
  packetForm_inRow _ _ _ _ _ (by decide)

theorem reserved7 : Statement .reserved7 :=
  packetForm_inRow _ _ _ _ _ (by decide)

theorem reset : Statement .reset :=
  packetForm_inRow _ _ _ _ _ (by decide)

theorem exec (ticks : Word) : Statement (.exec ticks) :=
  packetForm_inRow _ _ _ _ _ (by decide)

theorem gate (timer level : Word) : Statement (.gate timer level) :=
  packetForm_inRow _ _ _ _ _ (by decide)

theorem xclk (timer pulses : Word) : Statement (.xclk timer pulses) :=
  packetForm_inRow _ _ _ _ _ (by decide)

theorem patch (addr value mask : Word) : Statement (.patch addr value mask) :=
  packetForm_inRow _ _ _ _ _ (by decide)

theorem exprom (length : Word) : Statement (.exprom length) :=
  packetForm_inRow _ _ _ _ _ (by decide)

theorem save : Statement .save :=
  packetForm_inRow _ _ _ _ _ (by decide)

theorem load : Statement .load :=
  packetForm_inRow _ _ _ _ _ (by decide)

theorem regionRam (seg : BitVec 3) (mir : BitVec 2) (off : BitVec 21) (x : Access) :
    Statement (.regionRam seg mir off x) :=
  addressForm_inRow .region seg 23 _ _ x _ (by decide) (by decide)
    (by have := mir.isLt; have := off.isLt; omega) (by decide) (by decide)

theorem regionExp1 (seg : BitVec 3) (low : BitVec 23) (x : Access) :
    Statement (.regionExp1 seg low x) :=
  addressForm_inRow .region seg 23 _ _ x _ (by decide) (by decide) low.isLt (by decide) (by decide)

theorem regionScratchpad (seg : BitVec 3) (low : BitVec 10) (x : Access) :
    Statement (.regionScratchpad seg low x) :=
  addressForm_inRow .region seg 10 _ _ x _ (by decide) (by decide) low.isLt (by decide) (by decide)

theorem regionMemctrlA (seg : BitVec 3) (low : BitVec 5) (x : Access) :
    Statement (.regionMemctrlA seg low x) :=
  addressForm_inRow .region seg 5 _ _ x _ (by decide) (by decide) low.isLt (by decide) (by decide)

theorem regionMemctrlB (seg : BitVec 3) (low : BitVec 2) (x : Access) :
    Statement (.regionMemctrlB seg low x) :=
  addressForm_inRow .region seg 2 _ _ x _ (by decide) (by decide) low.isLt (by decide) (by decide)

theorem regionPad (seg : BitVec 3) (low : BitVec 4) (x : Access) :
    Statement (.regionPad seg low x) :=
  addressForm_inRow .region seg 4 _ _ x _ (by decide) (by decide) low.isLt (by decide) (by decide)

theorem regionSio (seg : BitVec 3) (low : BitVec 4) (x : Access) :
    Statement (.regionSio seg low x) :=
  addressForm_inRow .region seg 4 _ _ x _ (by decide) (by decide) low.isLt (by decide) (by decide)

theorem regionMemctrl2 (seg : BitVec 3) (low : BitVec 2) (x : Access) :
    Statement (.regionMemctrl2 seg low x) :=
  addressForm_inRow .region seg 2 _ _ x _ (by decide) (by decide) low.isLt (by decide) (by decide)

theorem regionIntc (seg : BitVec 3) (low : BitVec 3) (x : Access) :
    Statement (.regionIntc seg low x) :=
  addressForm_inRow .region seg 3 _ _ x _ (by decide) (by decide) low.isLt (by decide) (by decide)

theorem regionDma (seg : BitVec 3) (low : BitVec 7) (x : Access) :
    Statement (.regionDma seg low x) :=
  addressForm_inRow .region seg 7 _ _ x _ (by decide) (by decide) low.isLt (by decide) (by decide)

theorem regionTimersA (seg : BitVec 3) (low : BitVec 5) (x : Access) :
    Statement (.regionTimersA seg low x) :=
  addressForm_inRow .region seg 5 _ _ x _ (by decide) (by decide) low.isLt (by decide) (by decide)

theorem regionTimersB (seg : BitVec 3) (low : BitVec 4) (x : Access) :
    Statement (.regionTimersB seg low x) :=
  addressForm_inRow .region seg 4 _ _ x _ (by decide) (by decide) low.isLt (by decide) (by decide)

theorem regionCdrom (seg : BitVec 3) (low : BitVec 2) (x : Access) :
    Statement (.regionCdrom seg low x) :=
  addressForm_inRow .region seg 2 _ _ x _ (by decide) (by decide) low.isLt (by decide) (by decide)

theorem regionGpu (seg : BitVec 3) (low : BitVec 3) (x : Access) :
    Statement (.regionGpu seg low x) :=
  addressForm_inRow .region seg 3 _ _ x _ (by decide) (by decide) low.isLt (by decide) (by decide)

theorem regionMdec (seg : BitVec 3) (low : BitVec 3) (x : Access) :
    Statement (.regionMdec seg low x) :=
  addressForm_inRow .region seg 3 _ _ x _ (by decide) (by decide) low.isLt (by decide) (by decide)

theorem regionSpuA (seg : BitVec 3) (low : BitVec 9) (x : Access) :
    Statement (.regionSpuA seg low x) :=
  addressForm_inRow .region seg 9 _ _ x _ (by decide) (by decide) low.isLt (by decide) (by decide)

theorem regionSpuB (seg : BitVec 3) (low : BitVec 7) (x : Access) :
    Statement (.regionSpuB seg low x) :=
  addressForm_inRow .region seg 7 _ _ x _ (by decide) (by decide) low.isLt (by decide) (by decide)

theorem regionExp2 (seg : BitVec 3) (low : BitVec 13) (x : Access) :
    Statement (.regionExp2 seg low x) :=
  addressForm_inRow .region seg 13 _ _ x _ (by decide) (by decide) low.isLt (by decide) (by decide)

theorem regionBios (seg : BitVec 3) (low : BitVec 19) (x : Access) :
    Statement (.regionBios seg low x) :=
  addressForm_inRow .region seg 19 _ _ x _ (by decide) (by decide) low.isLt (by decide) (by decide)

theorem portMemctrl0 (seg : BitVec 3) (lane : BitVec 2) (x : Access) :
    Statement (.portMemctrl0 seg lane x) :=
  addressForm_inRow .port seg 2 _ _ x _ (by decide) (by decide) lane.isLt (by decide) (by decide)

theorem portMemctrl1 (seg : BitVec 3) (lane : BitVec 2) (x : Access) :
    Statement (.portMemctrl1 seg lane x) :=
  addressForm_inRow .port seg 2 _ _ x _ (by decide) (by decide) lane.isLt (by decide) (by decide)

theorem portMemctrl2 (seg : BitVec 3) (lane : BitVec 2) (x : Access) :
    Statement (.portMemctrl2 seg lane x) :=
  addressForm_inRow .port seg 2 _ _ x _ (by decide) (by decide) lane.isLt (by decide) (by decide)

theorem portMemctrl3 (seg : BitVec 3) (lane : BitVec 2) (x : Access) :
    Statement (.portMemctrl3 seg lane x) :=
  addressForm_inRow .port seg 2 _ _ x _ (by decide) (by decide) lane.isLt (by decide) (by decide)

theorem portMemctrl4 (seg : BitVec 3) (lane : BitVec 2) (x : Access) :
    Statement (.portMemctrl4 seg lane x) :=
  addressForm_inRow .port seg 2 _ _ x _ (by decide) (by decide) lane.isLt (by decide) (by decide)

theorem portMemctrl5 (seg : BitVec 3) (lane : BitVec 2) (x : Access) :
    Statement (.portMemctrl5 seg lane x) :=
  addressForm_inRow .port seg 2 _ _ x _ (by decide) (by decide) lane.isLt (by decide) (by decide)

theorem portMemctrl6 (seg : BitVec 3) (lane : BitVec 2) (x : Access) :
    Statement (.portMemctrl6 seg lane x) :=
  addressForm_inRow .port seg 2 _ _ x _ (by decide) (by decide) lane.isLt (by decide) (by decide)

theorem portMemctrl7 (seg : BitVec 3) (lane : BitVec 2) (x : Access) :
    Statement (.portMemctrl7 seg lane x) :=
  addressForm_inRow .port seg 2 _ _ x _ (by decide) (by decide) lane.isLt (by decide) (by decide)

theorem portMemctrl8 (seg : BitVec 3) (lane : BitVec 2) (x : Access) :
    Statement (.portMemctrl8 seg lane x) :=
  addressForm_inRow .port seg 2 _ _ x _ (by decide) (by decide) lane.isLt (by decide) (by decide)

theorem portRamSizeReg (seg : BitVec 3) (lane : BitVec 2) (x : Access) :
    Statement (.portRamSizeReg seg lane x) :=
  addressForm_inRow .port seg 2 _ _ x _ (by decide) (by decide) lane.isLt (by decide) (by decide)

theorem portSioStat (seg : BitVec 3) (x : Access) : Statement (.portSioStat seg x) :=
  addressForm_inRow .port seg 0 _ _ x _ (by decide) (by decide) (by decide) (by decide) (by decide)

theorem portT0Counter (seg : BitVec 3) (lane : BitVec 2) (x : Access) :
    Statement (.portT0Counter seg lane x) :=
  addressForm_inRow .port seg 2 _ _ x _ (by decide) (by decide) lane.isLt (by decide) (by decide)

theorem portT0Mode (seg : BitVec 3) (lane : BitVec 2) (x : Access) :
    Statement (.portT0Mode seg lane x) :=
  addressForm_inRow .port seg 2 _ _ x _ (by decide) (by decide) lane.isLt (by decide) (by decide)

theorem portT0Target (seg : BitVec 3) (lane : BitVec 2) (x : Access) :
    Statement (.portT0Target seg lane x) :=
  addressForm_inRow .port seg 2 _ _ x _ (by decide) (by decide) lane.isLt (by decide) (by decide)

theorem portT0None (seg : BitVec 3) (lane : BitVec 2) (x : Access) :
    Statement (.portT0None seg lane x) :=
  addressForm_inRow .port seg 2 _ _ x _ (by decide) (by decide) lane.isLt (by decide) (by decide)

theorem portT1Counter (seg : BitVec 3) (lane : BitVec 2) (x : Access) :
    Statement (.portT1Counter seg lane x) :=
  addressForm_inRow .port seg 2 _ _ x _ (by decide) (by decide) lane.isLt (by decide) (by decide)

theorem portT1Mode (seg : BitVec 3) (lane : BitVec 2) (x : Access) :
    Statement (.portT1Mode seg lane x) :=
  addressForm_inRow .port seg 2 _ _ x _ (by decide) (by decide) lane.isLt (by decide) (by decide)

theorem portT1Target (seg : BitVec 3) (lane : BitVec 2) (x : Access) :
    Statement (.portT1Target seg lane x) :=
  addressForm_inRow .port seg 2 _ _ x _ (by decide) (by decide) lane.isLt (by decide) (by decide)

theorem portT1None (seg : BitVec 3) (lane : BitVec 2) (x : Access) :
    Statement (.portT1None seg lane x) :=
  addressForm_inRow .port seg 2 _ _ x _ (by decide) (by decide) lane.isLt (by decide) (by decide)

theorem portT2Counter (seg : BitVec 3) (lane : BitVec 2) (x : Access) :
    Statement (.portT2Counter seg lane x) :=
  addressForm_inRow .port seg 2 _ _ x _ (by decide) (by decide) lane.isLt (by decide) (by decide)

theorem portT2Mode (seg : BitVec 3) (lane : BitVec 2) (x : Access) :
    Statement (.portT2Mode seg lane x) :=
  addressForm_inRow .port seg 2 _ _ x _ (by decide) (by decide) lane.isLt (by decide) (by decide)

theorem portT2Target (seg : BitVec 3) (lane : BitVec 2) (x : Access) :
    Statement (.portT2Target seg lane x) :=
  addressForm_inRow .port seg 2 _ _ x _ (by decide) (by decide) lane.isLt (by decide) (by decide)

theorem portT2None (seg : BitVec 3) (lane : BitVec 2) (x : Access) :
    Statement (.portT2None seg lane x) :=
  addressForm_inRow .port seg 2 _ _ x _ (by decide) (by decide) lane.isLt (by decide) (by decide)

theorem portExp1Ar (seg : BitVec 3) (x : Access) : Statement (.portExp1Ar seg x) :=
  addressForm_inRow .port seg 0 _ _ x _ (by decide) (by decide) (by decide) (by decide) (by decide)

theorem portExp2TtyStatus (seg : BitVec 3) (x : Access) : Statement (.portExp2TtyStatus seg x) :=
  addressForm_inRow .port seg 0 _ _ x _ (by decide) (by decide) (by decide) (by decide) (by decide)

theorem portExp2TtyData (seg : BitVec 3) (x : Access) : Statement (.portExp2TtyData seg x) :=
  addressForm_inRow .port seg 0 _ _ x _ (by decide) (by decide) (by decide) (by decide) (by decide)

theorem portExp2Post (seg : BitVec 3) (x : Access) : Statement (.portExp2Post seg x) :=
  addressForm_inRow .port seg 0 _ _ x _ (by decide) (by decide) (by decide) (by decide) (by decide)

end Sys2Proof.Laws.EncodingMatchesTable
end

