-- ==== Sys2Proof/Laws/Timers.lean ====
section
/-! SUPPORT. What each timer operation does to the bits of the mode register, said once: the reached
flags, the interrupt request, the counter's remainder, and what a legal mode is bit by bit. -/

namespace Sys2Proof.Machine

theorem mode_or_getLsbD (m : Half) (c k : Nat) :
    (m ||| BitVec.ofNat 16 c).getLsbD k = (m.getLsbD k || (decide (k < 16) && c.testBit k)) := by
  rw [BitVec.getLsbD_or, BitVec.getLsbD_ofNat]

theorem mode_and_not_getLsbD (m : Half) (c k : Nat) :
    (m &&& ~~~BitVec.ofNat 16 c).getLsbD k = (m.getLsbD k && !(c.testBit k)) := by
  rw [BitVec.getLsbD_and, BitVec.getLsbD_not, BitVec.getLsbD_ofNat]
  by_cases h : k < 16
  · simp [h]
  · simp [h, BitVec.getLsbD_of_ge m k (by omega)]

theorem mode_xor_getLsbD (m : Half) (c k : Nat) :
    (m ^^^ BitVec.ofNat 16 c).getLsbD k = (m.getLsbD k ^^ (decide (k < 16) && c.testBit k)) := by
  rw [BitVec.getLsbD_xor, BitVec.getLsbD_ofNat]

/-- The mask of one mode bit tests as that bit. -/
theorem testBit_mask (b k : Nat) : (2 ^ b).testBit k = decide (k = b) := by
  rw [Nat.testBit_two_pow]
  simp [eq_comm]

/-- Setting `interrupt_request_n`. -/
theorem mode_set_request (m : Half) (k : Nat) :
    (m ||| 0x0400).getLsbD k = (m.getLsbD k || decide (k = 10)) := by
  refine (mode_or_getLsbD m 0x0400 k).trans ?_
  rw [show (0x0400 : Nat) = 2 ^ 10 from rfl, testBit_mask]
  by_cases h : k = 10 <;> simp [h]

/-- Setting `reached_target`. -/
theorem mode_set_reachedTarget (m : Half) (k : Nat) :
    (m ||| 0x0800).getLsbD k = (m.getLsbD k || decide (k = 11)) := by
  refine (mode_or_getLsbD m 0x0800 k).trans ?_
  rw [show (0x0800 : Nat) = 2 ^ 11 from rfl, testBit_mask]
  by_cases h : k = 11 <;> simp [h]

/-- Setting `reached_overflow`. -/
theorem mode_set_reachedOverflow (m : Half) (k : Nat) :
    (m ||| 0x1000).getLsbD k = (m.getLsbD k || decide (k = 12)) := by
  refine (mode_or_getLsbD m 0x1000 k).trans ?_
  rw [show (0x1000 : Nat) = 2 ^ 12 from rfl, testBit_mask]
  by_cases h : k = 12 <;> simp [h]

/-- Clearing `interrupt_request_n`. -/
theorem mode_clear_request (m : Half) (k : Nat) :
    (m &&& ~~~0x0400).getLsbD k = (m.getLsbD k && !decide (k = 10)) := by
  refine (mode_and_not_getLsbD m 0x0400 k).trans ?_
  rw [show (0x0400 : Nat) = 2 ^ 10 from rfl, testBit_mask]

/-- Toggling `interrupt_request_n`. -/
theorem mode_toggle_request (m : Half) (k : Nat) :
    (m ^^^ 0x0400).getLsbD k = (m.getLsbD k ^^ decide (k = 10)) := by
  refine (mode_xor_getLsbD m 0x0400 k).trans ?_
  rw [show (0x0400 : Nat) = 2 ^ 10 from rfl, testBit_mask]
  by_cases h : k = 10 <;> simp [h]

/-- A mode is legal when no bit from 13 on is set. -/
theorem mode_lt_iff (m : Half) : m.toNat < 0x2000 ↔ ∀ k, 13 ≤ k → m.getLsbD k = false := by
  constructor
  · intro h k hk
    exact Nat.testBit_lt_two_pow (lt_of_lt_of_le h (Nat.pow_le_pow_right (n := 2) (by decide) hk))
  · intro h
    refine Nat.lt_of_testBit 13 (h 13 (by decide)) (by decide) fun j hj => ?_
    have h2 : (0x2000 : Nat).testBit j = false := by
      rw [show (0x2000 : Nat) = 2 ^ 13 from rfl, testBit_mask]
      simp
      omega
    rw [h2]
    exact h j (by omega)

/-- `noteEvents` touches the mode only: the two reached flags. -/
theorem noteEvents_spec (t : Timer) (n : Nat) :
    noteEvents t n = { t with mode := (noteEvents t n).mode } ∧
      ∀ k, (noteEvents t n).mode.getLsbD k =
        (t.mode.getLsbD k || (crossesTarget t n && decide (k = 11)) ||
          (reachesOverflow t n && decide (k = 12))) := by
  unfold noteEvents
  have hr : ∀ b, reachesOverflow (Timer.setMode t b) n = reachesOverflow t n := fun _ => rfl
  cases h1 : crossesTarget t n <;> cases h2 : reachesOverflow t n <;>
    simp only [hr, h2, if_true, if_false, Bool.false_eq_true] <;>
    refine ⟨by simp [Timer.setMode], fun k => ?_⟩ <;>
    (try simp only [Timer.setMode, mode_set_reachedTarget, mode_set_reachedOverflow]) <;> simp

/-- `UpdateIRQ` fires on a low line unless the latch of a one-shot timer is set, and latches. -/
theorem updateIrq_eq (t : Timer) :
    updateIrq t =
      let fires := !t.mode.getLsbD 10 && !(!t.mode.getLsbD 6 && t.irqDone)
      ({ t with irqDone := t.irqDone || fires }, fires) := by
  unfold updateIrq Timer.interruptRequestN Timer.irqRepeat
  cases (!t.mode.getLsbD 10 && !(!t.mode.getLsbD 6 && t.irqDone)) <;> simp

/-- `RaiseRequest` moves mode bit 10 and the latch only: a pulse ends high, a toggle inverts. -/
theorem raiseRequest_spec (t : Timer) :
    (raiseRequest t).1 =
        { t with mode := (raiseRequest t).1.mode, irqDone := t.irqDone || (raiseRequest t).2 } ∧
      (∀ k, k ≠ 10 → (raiseRequest t).1.mode.getLsbD k = t.mode.getLsbD k) ∧
      (t.mode.getLsbD 7 = false → (raiseRequest t).1.mode.getLsbD 10 = true ∧
        (raiseRequest t).2 = !(!t.mode.getLsbD 6 && t.irqDone)) ∧
      (t.mode.getLsbD 7 = true → (raiseRequest t).1.mode.getLsbD 10 = (!t.mode.getLsbD 10) ∧
        (raiseRequest t).2 = (t.mode.getLsbD 10 && !(!t.mode.getLsbD 6 && t.irqDone))) := by
  cases h7 : t.mode.getLsbD 7
  · have e : raiseRequest t =
        (Timer.setMode (updateIrq (Timer.clearMode t 0x0400)).1 0x0400,
          (updateIrq (Timer.clearMode t 0x0400)).2) := by
      unfold raiseRequest Timer.irqPulseN
      rw [h7]
      rfl
    rw [e, updateIrq_eq]
    refine ⟨by simp [Timer.setMode, Timer.clearMode], fun k hk => ?_, fun _ => ?_, by simp⟩
    · simp only [Timer.setMode, Timer.clearMode, mode_set_request, mode_clear_request]
      simp [hk]
    · simp only [Timer.setMode, Timer.clearMode, mode_set_request, mode_clear_request]
      simp
  · have e : raiseRequest t = updateIrq { t with mode := t.mode ^^^ 0x0400 } := by
      unfold raiseRequest Timer.irqPulseN
      rw [h7]
      rfl
    rw [e, updateIrq_eq]
    refine ⟨by simp, fun k hk => ?_, by simp, fun _ => ?_⟩
    · simp only [mode_toggle_request]
      simp [hk]
    · simp only [mode_toggle_request]
      simp

/-- `setGate` moves the gate, and besides it the counter or mode bit 0. -/
theorem setGate_spec (t : Timer) (level : Bool) :
    (setGate t level).gate = level ∧ (setGate t level).target = t.target ∧
      (setGate t level).irqDone = t.irqDone ∧
      ((setGate t level).mode = t.mode ∨ (setGate t level).mode = t.mode &&& ~~~1) := by
  unfold setGate
  by_cases h : t.gate = level
  · rw [if_pos h]
    exact ⟨h, rfl, rfl, .inl rfl⟩
  · rw [if_neg h]
    dsimp only
    split
    · split
      · exact ⟨rfl, rfl, rfl, .inl rfl⟩
      · exact ⟨rfl, rfl, rfl, .inl rfl⟩
      · exact ⟨rfl, rfl, rfl, .inl rfl⟩
      · exact ⟨rfl, rfl, rfl, .inr rfl⟩
    · exact ⟨rfl, rfl, rfl, .inl rfl⟩

/-- `nearer` is the smaller of the best so far and an offered horizon. -/
theorem nearer_spec (best : Nat) (o : Option Nat) :
    nearer best o ≤ best ∧ (∀ m, o = some m → nearer best o ≤ m) ∧
      (nearer best o = best ∨ o = some (nearer best o)) := by
  cases o with
  | none => simp [nearer]
  | some m =>
    simp [nearer]
    omega

end Sys2Proof.Machine
end

