-- ==== Sys2Proof/Tests/Slice0.lean ====
section
/-! SUPPORT. Small tests on fixed values, each proved by `decide`: ill-formed operations, one word for
every row of the opcode table, single steps with the results of spec/95_test_vectors.md, and the
witnesses of the statements' hypotheses. Expected values are those of spec/. -/

namespace Sys2Proof.Machine

/-- The response of an outcome. -/
def reply : Result → Option Response
  | .next t => some t.response
  | .fault _ => none
  | .refused _ => none

/-- A view of the next state of an outcome. -/
def view {α : Type} (f : State → α) : Result → Option α
  | .next t => some (f t)
  | .fault _ => none
  | .refused _ => none

/-- Status and data of the response of an outcome, for costs the spec leaves open. -/
def replyData (r : Result) : Option (Status × Word) :=
  view (fun t => (t.response.status, t.response.rdata)) r

/-- The state after reset with `T[0]` replaced. -/
def withT0 (t : Timer) : State :=
  { State.reset with timers := ⟨t, Timer.reset, Timer.reset⟩ }

/-- The state after reset with `T[1]` replaced. -/
def withT1 (t : Timer) : State :=
  { State.reset with timers := ⟨Timer.reset, t, Timer.reset⟩ }

/-- The state after reset with `T[2]` and the carry replaced. -/
def withT2 (t : Timer) (carry : Nat) : State :=
  { State.reset with timers := ⟨Timer.reset, Timer.reset, t⟩, carry := carry }

/-- The state after reset with answers of the collaborators at hand. -/
def answering (vs : List Word) : State :=
  { State.reset with answers := vs }

/-- A read request without pending ticks. -/
def readOf (size : Size) : Access := ⟨.read, size, 0, 0⟩

/-- A write request without pending ticks. -/
def writeOf (size : Size) (v : Word) : Access := ⟨.write, size, v, 0⟩

/-- The operation a carrier holds, as an option. -/
def decoded (k : Carrier) : Option Instr :=
  match decode k with
  | .ok i => some i
  | .error _ => none

/-! ## Ill-formed operations (R106) -/

theorem test_wf_refuses_pend_of_read_packet :
    Instr.wellFormed (.rw 0x1F801100 0x80000000) = false := by decide

theorem test_wf_refuses_pend_of_write_packet :
    Instr.wellFormed (.wb 0 0 0x80000000) = false := by decide

theorem test_wf_refuses_pend_of_row :
    Instr.wellFormed (.portT0Mode 0 0 ⟨.read, .word, 0, 0xFFFFFFFF⟩) = false := by decide

theorem test_wf_refuses_pend_of_region :
    Instr.wellFormed (.regionRam 0 0 0 ⟨.write, .byte, 0, 0x80000000⟩) = false := by decide

theorem test_wf_refuses_reserved_codes :
    Instr.wellFormed .reserved3 = false ∧ Instr.wellFormed .reserved7 = false := by decide

theorem test_wf_refuses_exec_bit_31 :
    Instr.wellFormed (.exec 0x80000000) = false := by decide

theorem test_wf_refuses_xclk_of_timer_2 :
    Instr.wellFormed (.xclk 2 0) = false := by decide

theorem test_wf_refuses_xclk_bit_31 :
    Instr.wellFormed (.xclk 1 0x80000000) = false := by decide

theorem test_wf_refuses_gate_of_timer_3 :
    Instr.wellFormed (.gate 3 0) = false := by decide

theorem test_wf_refuses_long_exprom :
    Instr.wellFormed (.exprom 0x800001) = false := by decide

theorem test_wf_accepts_largest_operands :
    Instr.wellFormed (.exec 0x7FFFFFFF) = true ∧ Instr.wellFormed (.xclk 1 0x7FFFFFFF) = true ∧
      Instr.wellFormed (.gate 2 0xFFFFFFFF) = true ∧ Instr.wellFormed (.exprom 0x800000) = true ∧
      Instr.wellFormed (.rw 0 0x7FFFFFFF) = true := by decide

/-! ## Decoding: one word for every row (R91, R92, R100, R101) -/

theorem test_decode_read_packets :
    decodeTableWord 100 0x0802010000000000000000028 = some (.rb 0x80201000 0x28) ∧
      decodeTableWord 100 0x1A04010020000000000000000 = some (.rh 0xA0401002 0) ∧
      decodeTableWord 100 0x21F801100000000000000003C = some (.rw 0x1F801100 0x3C) ∧
      decodeTableWord 100 0x3000000000000000000000000 = some .reserved3 := by decide

theorem test_decode_write_packets :
    decodeTableWord 100 0x480001001000000AA00000000 = some (.wb 0x80001001 0xAA 0) ∧
      decodeTableWord 100 0x51F8003FE0000BEEF00000000 = some (.wh 0x1F8003FE 0xBEEF 0) ∧
      decodeTableWord 100 0x61F8011040000005800000096 = some (.ww 0x1F801104 0x58 0x96) ∧
      decodeTableWord 100 0x7000000000000000000000000 = some .reserved7 := by decide

theorem test_decode_host_packets :
    decodeTableWord 100 0x8000000000000000000000000 = some .reset ∧
      decodeTableWord 100 0xC1FC0001012345678FFFF0000 = some (.patch 0x1FC00010 0x12345678 0xFFFF0000) ∧
      decodeTableWord 100 0xD000000060000000000000000 = some (.exprom 6) ∧
      decodeTableWord 100 0xE000000000000000000000000 = some .save ∧
      decodeTableWord 100 0xF000000000000000000000000 = some .load := by decide

theorem test_decode_timer_packets :
    decodeTableWord 100 0x9000000640000000000000000 = some (.exec 100) ∧
      decodeTableWord 100 0xA000000010000000100000000 = some (.gate 1 1) ∧
      decodeTableWord 100 0xB000000010000000200000000 = some (.xclk 1 2) := by decide

theorem test_decode_store_rows :
    decodeTableWord 32 0x80201004 = some (.regionRam 4 1 0x1004 (readOf .byte)) ∧
      decodeTableWord 32 0xBF7FFFFF = some (.regionExp1 5 0x7FFFFF (readOf .byte)) ∧
      decodeTableWord 32 0x1F8003FE = some (.regionScratchpad 0 0x3FE (readOf .byte)) ∧
      decodeTableWord 32 0x1F803FFC = some (.regionExp2 0 0x1FFC (readOf .byte)) ∧
      decodeTableWord 32 0xBFC06F0C = some (.regionBios 5 0x6F0C (readOf .byte)) := by decide

theorem test_decode_rows_sharing_a_word :
    decoded ⟨.region, 0x200000000000000009F801011⟩ = some (.regionMemctrlA 4 0x11 (readOf .word)) ∧
      decoded ⟨.region, 0x200000000000000001F801023⟩ = some (.regionMemctrlB 0 3 (readOf .word)) ∧
      decoded ⟨.region, 0x200000000000000001F801061⟩ = some (.regionMemctrl2 0 1 (readOf .word)) ∧
      decoded ⟨.region, 0x200000000000000001F80111D⟩ = some (.regionTimersA 0 0x1D (readOf .word)) ∧
      decoded ⟨.region, 0x20000000000000000FF80112B⟩ = some (.regionTimersB 7 0xB (readOf .word)) := by decide

theorem test_decode_peripheral_rows :
    decodeTableWord 32 0x1F801045 = some (.regionPad 0 5 (readOf .byte)) ∧
      decodeTableWord 32 0x3F80105E = some (.regionSio 1 0xE (readOf .byte)) ∧
      decodeTableWord 32 0x1F801074 = some (.regionIntc 0 4 (readOf .byte)) ∧
      decodeTableWord 32 0x1F8010F3 = some (.regionDma 0 0x73 (readOf .byte)) ∧
      decodeTableWord 32 0x1F801802 = some (.regionCdrom 0 2 (readOf .byte)) ∧
      decodeTableWord 32 0xBF801814 = some (.regionGpu 5 4 (readOf .byte)) ∧
      decodeTableWord 32 0x1F801827 = some (.regionMdec 0 7 (readOf .byte)) ∧
      decodeTableWord 32 0x1F801DAE = some (.regionSpuA 0 0x1AE (readOf .byte)) ∧
      decodeTableWord 32 0x1F801E7C = some (.regionSpuB 0 0x7C (readOf .byte)) := by decide

theorem test_decode_memctrl_ports :
    decodeTableWord 32 0x9F801000 = some (.portMemctrl0 4 0 (readOf .byte)) ∧
      decodeTableWord 32 0x9F801005 = some (.portMemctrl1 4 1 (readOf .byte)) ∧
      decodeTableWord 32 0x9F80100A = some (.portMemctrl2 4 2 (readOf .byte)) ∧
      decodeTableWord 32 0x9F80100F = some (.portMemctrl3 4 3 (readOf .byte)) ∧
      decodeTableWord 32 0x9F801010 = some (.portMemctrl4 4 0 (readOf .byte)) ∧
      decodeTableWord 32 0x9F801015 = some (.portMemctrl5 4 1 (readOf .byte)) ∧
      decodeTableWord 32 0x9F80101A = some (.portMemctrl6 4 2 (readOf .byte)) ∧
      decodeTableWord 32 0x9F80101F = some (.portMemctrl7 4 3 (readOf .byte)) ∧
      decodeTableWord 32 0x9F801020 = some (.portMemctrl8 4 0 (readOf .byte)) ∧
      decodeTableWord 32 0x1F801062 = some (.portRamSizeReg 0 2 (readOf .byte)) := by decide

theorem test_decode_byte_ports :
    decodeTableWord 32 0xBF801054 = some (.portSioStat 5 (readOf .byte)) ∧
      decodeTableWord 32 0x9F020018 = some (.portExp1Ar 4 (readOf .byte)) ∧
      decodeTableWord 32 0x1F802021 = some (.portExp2TtyStatus 0 (readOf .byte)) ∧
      decodeTableWord 32 0x1F802023 = some (.portExp2TtyData 0 (readOf .byte)) ∧
      decodeTableWord 32 0x1F802041 = some (.portExp2Post 0 (readOf .byte)) := by decide

theorem test_decode_t0_ports :
    decodeTableWord 32 0x1F801101 = some (.portT0Counter 0 1 (readOf .byte)) ∧
      decodeTableWord 32 0x1F801105 = some (.portT0Mode 0 1 (readOf .byte)) ∧
      decodeTableWord 32 0x1F801109 = some (.portT0Target 0 1 (readOf .byte)) ∧
      decodeTableWord 32 0x1F80110D = some (.portT0None 0 1 (readOf .byte)) := by decide

theorem test_decode_t1_ports :
    decodeTableWord 32 0x1F801112 = some (.portT1Counter 0 2 (readOf .byte)) ∧
      decodeTableWord 32 0x1F801116 = some (.portT1Mode 0 2 (readOf .byte)) ∧
      decodeTableWord 32 0x1F80111A = some (.portT1Target 0 2 (readOf .byte)) ∧
      decodeTableWord 32 0x1F80111E = some (.portT1None 0 2 (readOf .byte)) := by decide

theorem test_decode_t2_ports :
    decodeTableWord 32 0x1F801123 = some (.portT2Counter 0 3 (readOf .byte)) ∧
      decodeTableWord 32 0x1F801127 = some (.portT2Mode 0 3 (readOf .byte)) ∧
      decodeTableWord 32 0x1F80112B = some (.portT2Target 0 3 (readOf .byte)) ∧
      decodeTableWord 32 0x1F80112F = some (.portT2None 0 3 (readOf .byte)) := by decide

/-- Type, size, value and `pend` of an address form (R92, R93). -/
theorem test_decode_region_write :
    decoded ⟨.region, 0x5000000960000BEEF1F801120⟩ =
      some (.regionTimersB 0 0 ⟨.write, .half, 0xBEEF, 0x96⟩) := by decide

theorem test_decode_port_write :
    decoded ⟨.port, 0x6000000280000005A1F801105⟩ =
      some (.portT0Mode 0 1 ⟨.write, .word, 0x5A, 0x28⟩) := by decide

/-- The hole after MEMCTRL is in no row (R65). -/
theorem test_decode_hole :
    decodeTableWord 32 0x1F801030 = none := by decide

theorem test_decode_past_timers :
    decodeTableWord 32 0x1F801130 = none ∧ decodeTableWord 32 0x1F801E80 = none := by decide

/-- The packet of spec/95_test_vectors.md 2.7 row 5. -/
theorem test_encode_ww :
    encode (.ww 0x1F801104 0x58 0x96) = ⟨.packet, 0x61F8011040000005800000096⟩ := by decide

theorem test_encode_port :
    encode (.portT0Mode 4 1 ⟨.write, .half, 0x98, 0⟩) = ⟨.port, 0x500000000000000989F801105⟩ := by decide

/-! ## Steps from reset: a word of the table runs as the first operation -/

theorem test_step_exec :
    reply (step (State.reset.withFetchWord 100 0x9000000640000000000000000)) = some ⟨.ok, 0, 0⟩ := by decide

theorem test_step_exec_advances :
    view (fun t => t.timers.t0.counter) (step (State.reset.withFetchWord 100 0x9000000640000000000000000)) =
      some 100 := by decide

/-- spec/95_test_vectors.md 2.2 row 15. -/
theorem test_step_region :
    reply (step (State.reset.withFetchWord 32 0x1FC06F0C)) = some ⟨.ok, 0x01, 7⟩ := by decide

/-- spec/95_test_vectors.md 2.4 row 3. -/
theorem test_step_port :
    reply (step (State.reset.withFetchWord 32 0x1F801011)) = some ⟨.ok, 0x24, 2⟩ := by decide

theorem test_step_waits :
    step State.reset = .next State.reset := rfl

/-- An address in no row is still served: an invalid byte read (R103, R155). -/
theorem test_step_no_row :
    reply (step (State.reset.withFetchWord 32 0x1F801030)) = some ⟨.invalid, 0xFF, 1⟩ := by decide

/-! ## Clock and sync selection (R37, R38) -/

/-- R38 with the gate low: no sync, then sync modes 0, 1, 2, 3. -/
theorem test_sync_modes_gate_low :
    [0x0, 0x1, 0x3, 0x5, 0x7].map (fun m => countingEnabled ⟨0, 0, m, false, false⟩) =
      [true, true, true, false, false] := by decide

/-- R38 with the gate high. -/
theorem test_sync_modes_gate_high :
    [0x0, 0x1, 0x3, 0x5, 0x7].map (fun m => countingEnabled ⟨0, 0, m, true, false⟩) =
      [true, false, true, true, true] := by decide

/-- R37: timers 0 and 1 by the low bit of the clock source, timer 2 by the high one. -/
theorem test_clock_sources :
    [0x000, 0x100, 0x200, 0x300].map (fun m => useExternalClock .t1 ⟨0, 0, m, false, false⟩) =
        [false, true, false, true] ∧
      [0x000, 0x100, 0x200, 0x300].map (fun m => useExternalClock .t2 ⟨0, 0, m, false, false⟩) =
        [false, false, true, true] := by decide

/-! ## Single operations (values of spec/95_test_vectors.md) -/

/-- spec/95_test_vectors.md S1. -/
theorem test_rb_ram_mirror :
    reply (exec (.rb 0x80201000 0) { State.reset with ram := [(0x1000, 0xAB)] }) = some ⟨.ok, 0xAB, 4⟩ := by decide

/-- spec/95_test_vectors.md 2.2 row 3. -/
theorem test_rh_ram :
    reply (exec (.rh 0xA0401002 0)
      { State.reset with ram := [(0x1000, 0x44), (0x1001, 0x33), (0x1002, 0x22), (0x1003, 0x11)] }) =
      some ⟨.ok, 0x1122, 4⟩ := by decide

/-- spec/95_test_vectors.md 2.2 row 9. -/
theorem test_rh_misaligned :
    reply (exec (.rh 0x1001 0) State.reset) = some ⟨.refused .misaligned, 0, 0⟩ := by decide

/-- spec/95_test_vectors.md 2.1. -/
theorem test_rw_unmapped :
    reply (exec (.rw 0x1F801024 0) State.reset) = some ⟨.invalid, 0xFFFFFFFF, 1⟩ := by decide

/-- spec/95_test_vectors.md 2.2 row 14. -/
theorem test_rw_bios_patch :
    reply (exec (.rw 0x1FC06F0C 0) State.reset) = some ⟨.ok, 0x24010001, 25⟩ := by decide

/-- spec/95_test_vectors.md 2.2 row 7. -/
theorem test_wb_low_byte_only :
    view (fun t => t.ram) (exec (.wb 0x1002 0xFFFFFF77 0) { State.reset with ram := [(0x1001, 0xAA)] }) =
      some [(0x1001, 0xAA), (0x1002, 0x77)] := by decide

/-- spec/95_test_vectors.md 2.2 row 11. -/
theorem test_wh_scratchpad_top :
    view (fun t => (t.scratch, t.response.ticks)) (exec (.wh 0x1F8003FE 0xBEEF 0) State.reset) =
      some ([(0x3FE, 0xEF), (0x3FF, 0xBE)], 1) := by decide

/-- spec/95_test_vectors.md 2.2 row 1. -/
theorem test_ww_ram :
    view (fun t => t.ram) (exec (.ww 0x1000 0x11223344 0) State.reset) =
      some [(0x1000, 0x44), (0x1001, 0x33), (0x1002, 0x22), (0x1003, 0x11)] := by decide

/-- spec/95_test_vectors.md 2.2 row 10. -/
theorem test_ww_misaligned :
    view (fun t => (t.ram, t.response)) (exec (.ww 0x1002 0xFF 0) State.reset) =
      some ([], ⟨.refused .misaligned, 0, 0⟩) := by decide

theorem test_reserved3 :
    reply (exec .reserved3 State.reset) = some ⟨.refused .reservedOp, 0, 0⟩ := by decide

theorem test_reserved7 :
    reply (exec .reserved7 State.reset) = some ⟨.refused .reservedOp, 0, 0⟩ := by decide

/-- R54. -/
theorem test_reset_clears_timer :
    view (fun t => (t.timers.t0, t.trace)) (exec .reset { withT0 ⟨5, 6, 0x58, true, true⟩ with trace := [.synchronize] }) =
      some (⟨0, 0, 0, false, false⟩, []) := by decide

/-- R271. -/
theorem test_reset_refuses_short_image :
    reply (exec .reset { State.reset with platform := { suggestedPlatform with biosImage := ⟨0x7FFFF, []⟩ } }) =
      some ⟨.refused .biosLoadFailed, 0, 0⟩ := by decide

/-- spec/95_test_vectors.md S4; the latch is set by UpdateIRQ (R246). -/
theorem test_exec_target :
    view (fun t => (t.timers.t0, t.trace)) (exec (.exec 100) (withT0 ⟨0, 100, 0x58, false, false⟩)) =
      some (⟨0, 100, 0xC58, false, true⟩, [.irq 4, .setDowncount 100]) := by decide

/-- spec/95_test_vectors.md S5, first call. -/
theorem test_exec_divided :
    view (fun t => (t.timers.t2.counter, t.carry, t.trace)) (exec (.exec 79) (withT2 ⟨0, 10, 0x200, false, false⟩ 0)) =
      some (9, 7, [.setDowncount 0x7FFFFFFF]) := by decide

/-- spec/95_test_vectors.md 2.9 row 2. -/
theorem test_gate_reset_on_rise :
    view (fun t => t.timers.t0) (exec (.gate 0 1) (withT0 ⟨10, 0, 0x3, false, false⟩)) = some ⟨0, 0, 0x3, true, false⟩ := by decide

/-- spec/95_test_vectors.md 2.9 row 4. -/
theorem test_gate_free_run :
    view (fun t => t.timers.t0) (exec (.gate 0 1) (withT0 ⟨10, 0, 0x7, false, false⟩)) = some ⟨10, 0, 0x6, true, false⟩ := by decide

/-- spec/95_test_vectors.md 2.10 row 3. -/
theorem test_xclk_reaches_target :
    view (fun t => (t.timers.t1.counter, t.timers.t1.mode, t.trace)) (exec (.xclk 1 1) (withT1 ⟨2, 3, 0x158, false, false⟩)) =
      some (0, 0xD58, [.irq 5]) := by decide

/-- R243: the timer is not on its external clock. -/
theorem test_xclk_discarded :
    view (fun t => (t.timers.t1.counter, t.trace)) (exec (.xclk 1 1) (withT1 ⟨2, 3, 0x58, false, false⟩)) = some (2, []) := by decide

/-- R274: the old word is `0xAF81A9C0`. -/
theorem test_patch :
    view (fun t => littleEndian (Memory.read t.bios) 0x6F14 .word)
      (exec (.patch 0xBFC06F14 0x12 0xFF) State.reset) = some 0xAF81A912 := by decide

theorem test_patch_bad_address :
    reply (exec (.patch 0x1FC00002 0 0) State.reset) = some ⟨.refused .badPatchAddress, 0, 0⟩ := by decide

theorem test_exprom :
    view (fun t => t.exp1Rom) (exec (.exprom 2) { State.reset with payload := ⟨[0x11, 0x22], none⟩ }) =
      some [0x11, 0x22] := by decide

/-- spec/95_test_vectors.md 2.3 row 13. -/
theorem test_exprom_too_long :
    reply (exec (.exprom 0x800001) State.reset) = some ⟨.refused .reservedOp, 0, 0⟩ := by decide

theorem test_save :
    view (fun t => t.saved.map (fun n => n.timers.t0.counter)) (exec .save (withT0 ⟨7, 0, 0, false, false⟩)) = some (some 7) := by decide

theorem test_load :
    view (fun t => (t.timers.t0.counter, t.response.status)) (exec .load
      { State.reset with payload := ⟨[], some (State.snapshot (withT0 ⟨7, 0, 0, false, false⟩))⟩ }) = some (7, .ok) := by decide

theorem test_load_without_snapshot :
    reply (exec .load State.reset) = some ⟨.refused .stateMismatch, 0, 0⟩ := by decide

theorem test_regionRam :
    reply (exec (.regionRam 5 2 0x1002 (readOf .half))
      { State.reset with ram := [(0x1002, 0x22), (0x1003, 0x11)] }) = some ⟨.ok, 0x1122, 4⟩ := by decide

/-- spec/95_test_vectors.md 2.3 row 6. -/
theorem test_regionExp1_past_end :
    replyData (exec (.regionExp1 0 4 (readOf .word)) { State.reset with exp1Rom := [0x11, 0x22, 0x33, 0x44, 0x55, 0x66] }) =
      some (.ok, 0) := by decide

/-- spec/95_test_vectors.md 2.3 row 2. -/
theorem test_regionExp1_no_rom :
    replyData (exec (.regionExp1 0 0x20018 (readOf .half)) State.reset) = some (.ok, 0xFFFF) := by decide

/-- spec/95_test_vectors.md 2.2 row 12. -/
theorem test_regionScratchpad :
    reply (exec (.regionScratchpad 4 0x3FF (readOf .byte)) { State.reset with scratch := [(0x3FF, 0xBE)] }) =
      some ⟨.ok, 0xBE, 1⟩ := by decide

/-- spec/95_test_vectors.md 2.4 row 6: every mask bit involved is writable, so the old value does not show. -/
theorem test_regionMemctrlA_narrow_write :
    view (fun t => (t.memctrl.biosDelay, t.biosTime)) (exec (.regionMemctrlA 0 0x11 (writeOf .byte 0x24)) State.reset) =
      some (0x2400, ⟨6, 9, 15⟩) := by decide

/-- spec/95_test_vectors.md 2.4 row 3. -/
theorem test_regionMemctrlA_lane_read :
    reply (exec (.regionMemctrlA 0 0x11 (readOf .word)) State.reset) = some ⟨.ok, 0x1324, 2⟩ := by decide

/-- spec/95_test_vectors.md 2.4 row 9. -/
theorem test_regionMemctrlB :
    view (fun t => t.memctrl.commonDelay) (exec (.regionMemctrlB 0 0 (writeOf .word 0xFFFFFFFF)) State.reset) =
      some 0x0003FFFF := by decide

/-- spec/95_test_vectors.md 2.5 row 28. -/
theorem test_regionPad :
    view (fun t => (t.response, t.trace)) (exec (.regionPad 0 4 (readOf .half)) (answering [0x0007])) =
      some (⟨.ok, 7, 2⟩, [.collabRead .pad 4 .half]) := by decide

/-- spec/95_test_vectors.md 2.3 row 22. -/
theorem test_regionSio :
    reply (exec (.regionSio 0 4 (readOf .half)) State.reset) = some ⟨.ok, 5, 2⟩ := by decide

/-- spec/95_test_vectors.md 2.3 row 25. -/
theorem test_regionSio_misaligned :
    reply (exec (.regionSio 0 5 (readOf .half)) State.reset) = some ⟨.refused .misaligned, 0, 0⟩ := by decide

/-- spec/95_test_vectors.md 2.4 row 17. -/
theorem test_regionMemctrl2 :
    view (fun t => t.ramSizeReg) (exec (.regionMemctrl2 0 1 (writeOf .byte 0x0C)) State.reset) = some 0xC00 := by decide

/-- spec/95_test_vectors.md 2.5 row 3. -/
theorem test_regionIntc_read :
    view (fun t => (t.response, t.trace)) (exec (.regionIntc 0 1 (readOf .byte)) (answering [0x449])) =
      some (⟨.ok, 4, 2⟩, [.collabRead .intc 0 .word]) := by decide

/-- spec/95_test_vectors.md 2.5 row 6. -/
theorem test_regionIntc_write :
    view (fun t => t.trace) (exec (.regionIntc 0 1 (writeOf .byte 0xFF)) State.reset) =
      some [.collabWrite .intc 0 .word 0xFF00] := by decide

/-- spec/95_test_vectors.md 2.5 row 12. -/
theorem test_regionDma_write :
    view (fun t => t.trace) (exec (.regionDma 0 0x27 (writeOf .half 0x1281)) State.reset) =
      some [.collabWrite .dma 0x24 .word 0x81000000] := by decide

/-- spec/95_test_vectors.md 2.5 row 8. -/
theorem test_regionDma_read :
    reply (exec (.regionDma 0 0x73 (readOf .byte)) (answering [0x07654321])) = some ⟨.ok, 7, 2⟩ := by decide

/-- spec/95_test_vectors.md 2.6 row 11. -/
theorem test_regionTimersA :
    view (fun t => (t.response, t.timers.t1.mode, t.trace)) (exec (.regionTimersA 0 0x14 (readOf .word)) (withT1 ⟨0, 0, 0x1FFF, false, false⟩)) =
      some (⟨.ok, 0x1FFF, 2⟩, 0x07FF, [.synchronize]) := by decide

/-- spec/95_test_vectors.md 2.6 row 9. -/
theorem test_regionTimersB :
    view (fun t => (t.response.rdata, t.trace)) (exec (.regionTimersB 0 0xF (readOf .byte)) State.reset) =
      some (0xFF, []) := by decide

/-- spec/95_test_vectors.md 2.5 row 13. -/
theorem test_regionCdrom :
    view (fun t => (t.response, t.trace)) (exec (.regionCdrom 0 0 (readOf .byte)) (answering [0x18])) =
      some (⟨.ok, 0x18, 7⟩, [.collabRead .cdrom 0 .byte]) := by decide

/-- spec/95_test_vectors.md 2.5 row 15. -/
theorem test_regionCdrom_width :
    view (fun t => (t.response, t.trace)) (exec (.regionCdrom 0 0 (readOf .half)) State.reset) =
      some (⟨.refused .assertWidth, 0, 0⟩, []) := by decide

/-- spec/95_test_vectors.md 2.5 row 18. -/
theorem test_regionGpu :
    view (fun t => t.trace) (exec (.regionGpu 0 0 (writeOf .word 0xE1000400)) State.reset) =
      some [.collabWrite .gpu 0 .word 0xE1000400] := by decide

/-- spec/95_test_vectors.md 2.5 row 19. -/
theorem test_regionGpu_narrow :
    view (fun t => (t.response, t.trace)) (exec (.regionGpu 0 0 (readOf .half)) State.reset) =
      some (⟨.invalid, 0xFFFF, 1⟩, []) := by decide

/-- spec/95_test_vectors.md 2.5 row 20. -/
theorem test_regionMdec :
    view (fun t => (t.response, t.trace)) (exec (.regionMdec 0 0 (readOf .word)) (answering [0])) =
      some (⟨.ok, 0, 2⟩, [.collabRead .mdec 0 .word]) := by decide

/-- spec/95_test_vectors.md 2.5 row 23. -/
theorem test_regionSpuA_word_read :
    view (fun t => (t.response, t.trace)) (exec (.regionSpuA 0 0x1AC (readOf .word)) (answering [0, 0x8040])) =
      some (⟨.ok, 0x80400000, 41⟩, [.collabRead .spu 0x1AC .half, .collabRead .spu 0x1AE .half]) := by decide

/-- spec/95_test_vectors.md 2.5 row 24. -/
theorem test_regionSpuA_word_write :
    view (fun t => t.trace) (exec (.regionSpuA 0 0x180 (writeOf .word 0x3FFF1234)) State.reset) =
      some [.collabWrite .spu 0x180 .half 0x1234, .collabWrite .spu 0x182 .half 0x3FFF] := by decide

/-- spec/95_test_vectors.md 2.5 row 27. -/
theorem test_regionSpuB :
    view (fun t => t.trace) (exec (.regionSpuB 0 0x7C (readOf .word)) State.reset) =
      some [.collabRead .spu 0x27C .half, .collabRead .spu 0x27E .half] := by decide

/-- spec/95_test_vectors.md 2.3 row 15. -/
theorem test_regionExp2 :
    replyData (exec (.regionExp2 0 0x20 (readOf .half)) State.reset) = some (.ok, 0xFFFF) := by decide

/-- spec/95_test_vectors.md 2.3 row 21. -/
theorem test_regionExp2_dropped :
    view (fun t => (t.trace, t.ttyLine)) (exec (.regionExp2 0 0x40 (writeOf .word 0x37003700)) State.reset) =
      some ([], []) := by decide

/-- spec/95_test_vectors.md 2.2 row 16. -/
theorem test_regionBios_write_ignored :
    view (fun t => (t.response, t.bios)) (exec (.regionBios 5 0x6F0C (writeOf .word 0)) State.reset) =
      some (⟨.ok, 0, 25⟩, State.reset.bios) := by decide

/-- The suggested reset values (R9). -/
theorem test_portMemctrl_reads :
    reply (exec (.portMemctrl0 0 0 (readOf .word)) State.reset) = some ⟨.ok, 0x1F000000, 2⟩ ∧
      reply (exec (.portMemctrl1 0 0 (readOf .word)) State.reset) = some ⟨.ok, 0x1F802000, 2⟩ ∧
      reply (exec (.portMemctrl2 0 0 (readOf .word)) State.reset) = some ⟨.ok, 0x0013243F, 2⟩ ∧
      reply (exec (.portMemctrl3 0 0 (readOf .word)) State.reset) = some ⟨.ok, 0x00003022, 2⟩ ∧
      reply (exec (.portMemctrl4 0 0 (readOf .word)) State.reset) = some ⟨.ok, 0x0013243F, 2⟩ ∧
      reply (exec (.portMemctrl5 0 0 (readOf .word)) State.reset) = some ⟨.ok, 0x200931E1, 2⟩ ∧
      reply (exec (.portMemctrl6 0 0 (readOf .word)) State.reset) = some ⟨.ok, 0x00020843, 2⟩ ∧
      reply (exec (.portMemctrl7 0 0 (readOf .word)) State.reset) = some ⟨.ok, 0x00070777, 2⟩ ∧
      reply (exec (.portMemctrl8 0 0 (readOf .word)) State.reset) = some ⟨.ok, 0x00031125, 2⟩ := by decide

/-- spec/95_test_vectors.md 2.4 row 4. -/
theorem test_portMemctrl4_write :
    view (fun t => (t.memctrl.biosDelay, t.biosTime)) (exec (.portMemctrl4 0 0 (writeOf .word 0x0013343F)) State.reset) =
      some (0x0013343F, ⟨7, 7, 13⟩) := by decide

/-- spec/95_test_vectors.md 2.4 row 15. -/
theorem test_portMemctrl2_masked :
    view (fun t => t.memctrl.exp1Delay) (exec (.portMemctrl2 0 0 (writeOf .word 0x00FFFFFF)) State.reset) =
      some 0x001FFFFF := by decide

/-- R165. -/
theorem test_portRamSizeReg :
    reply (exec (.portRamSizeReg 0 1 (readOf .byte)) State.reset) = some ⟨.ok, 0x0B, 2⟩ := by decide

/-- spec/95_test_vectors.md 2.3 row 22. -/
theorem test_portSioStat :
    reply (exec (.portSioStat 0 (readOf .word)) State.reset) = some ⟨.ok, 5, 2⟩ := by decide

/-- spec/95_test_vectors.md 2.6 row 2. -/
theorem test_portT0Counter_lane :
    reply (exec (.portT0Counter 0 1 (readOf .byte)) (withT0 ⟨0xABCD, 0, 0, false, false⟩)) = some ⟨.ok, 0xAB, 2⟩ := by decide

/-- spec/95_test_vectors.md 2.7 row 3. -/
theorem test_portT0Counter_pend :
    view (fun t => (t.response.rdata, t.trace)) (exec (.portT0Counter 0 0 ⟨.read, .word, 0, 40⟩) (withT0 ⟨60, 100, 0x58, false, false⟩)) =
      some (0, [.synchronize, .irq 4, .setDowncount 100]) := by decide

/-- spec/95_test_vectors.md 2.6 row 16. -/
theorem test_portT0Mode_write :
    view (fun t => t.timers.t0) (exec (.portT0Mode 0 0 (writeOf .half 0x98)) (withT0 ⟨5, 10, 0, false, true⟩)) =
      some ⟨0, 10, 0x498, false, false⟩ := by decide

/-- spec/95_test_vectors.md 2.6 row 18. -/
theorem test_portT0Mode_byte_read :
    view (fun t => (t.response.rdata, t.timers.t0.mode)) (exec (.portT0Mode 0 0 (readOf .byte)) (withT0 ⟨0, 0, 0x1C58, false, false⟩)) =
      some (0x58, 0x0458) := by decide

/-- spec/95_test_vectors.md 2.7 row 7. -/
theorem test_portT0Target_no_sync :
    view (fun t => (t.response.rdata, t.timers.t0.counter, t.trace)) (exec (.portT0Target 0 0 ⟨.read, .word, 0, 10⟩) (withT0 ⟨0, 100, 0x58, false, false⟩)) =
      some (0x64, 0, []) := by decide

/-- spec/95_test_vectors.md 2.6 row 9. -/
theorem test_portT0None :
    view (fun t => (t.response, t.trace)) (exec (.portT0None 0 1 (readOf .word)) State.reset) =
      some (⟨.ok, 0x00FFFFFF, 2⟩, []) := by decide

/-- spec/95_test_vectors.md 2.6 row 7, on timer 1. -/
theorem test_portT1Counter_write :
    view (fun t => t.timers.t1.counter) (exec (.portT1Counter 0 0 (writeOf .word 0x12345678)) State.reset) = some 0x5678 := by decide

/-- spec/95_test_vectors.md 2.6 row 15. -/
theorem test_portT1Mode_high_lane :
    view (fun t => t.timers.t1) (exec (.portT1Mode 0 2 (writeOf .half 0x58)) (withT1 ⟨5, 10, 0x18, false, true⟩)) =
      some ⟨0, 10, 0, false, false⟩ := by decide

/-- spec/95_test_vectors.md 2.6 row 14. -/
theorem test_portT1Target_write :
    view (fun t => t.timers.t1.target) (exec (.portT1Target 0 1 (writeOf .byte 0x07)) State.reset) = some 0x0700 := by decide

/-- spec/95_test_vectors.md 2.6 row 9, on timer 1. -/
theorem test_portT1None :
    reply (exec (.portT1None 0 2 (readOf .half)) State.reset) = some ⟨.ok, 0xFFFF, 2⟩ := by decide

/-- spec/95_test_vectors.md 2.6 row 6, on timer 2. -/
theorem test_portT2Counter_write_lane :
    view (fun t => t.timers.t2.counter) (exec (.portT2Counter 0 2 (writeOf .half 0xFFFF)) (withT2 ⟨0xABCD, 0, 0, false, false⟩ 0)) =
      some 0 := by decide

/-- spec/95_test_vectors.md 2.6 row 19. -/
theorem test_portT2Mode_write_flags :
    view (fun t => t.timers.t2.mode) (exec (.portT2Mode 0 0 (writeOf .half 0x0C58)) State.reset) = some 0x0C58 := by decide

/-- spec/95_test_vectors.md 2.6 row 13, on timer 2. -/
theorem test_portT2Target_write :
    view (fun t => t.timers.t2.target) (exec (.portT2Target 0 0 (writeOf .word 0x12345)) State.reset) = some 0x2345 := by decide

/-- spec/95_test_vectors.md 2.6 row 9. -/
theorem test_portT2None :
    reply (exec (.portT2None 0 3 (readOf .byte)) State.reset) = some ⟨.ok, 0xFF, 2⟩ := by decide

/-- spec/95_test_vectors.md 2.3 row 9. -/
theorem test_portExp1Ar :
    replyData (exec (.portExp1Ar 0 (readOf .word)) { State.reset with exp1Rom := [0x11] }) = some (.ok, 1) := by decide

/-- spec/95_test_vectors.md 2.3 row 14. -/
theorem test_portExp2TtyStatus :
    replyData (exec (.portExp2TtyStatus 0 (readOf .byte)) State.reset) = some (.ok, 0x0C) := by decide

/-- spec/95_test_vectors.md 2.3 row 19. -/
theorem test_portExp2TtyData :
    view (fun t => (t.trace, t.ttyLine)) (exec (.portExp2TtyData 0 (writeOf .byte 0x0A)) { State.reset with ttyLine := [0x41] }) =
      some ([.ttyLine [0x41]], []) := by decide

/-- spec/95_test_vectors.md 2.3 row 20. -/
theorem test_portExp2Post :
    view (fun t => t.trace) (exec (.portExp2Post 0 (writeOf .byte 0x37)) State.reset) = some [.postStatus 7] := by decide

/-! ## Shared operations -/

/-- R173. -/
theorem test_calc_negative_intermediate :
    calcTimes suggestedMemDelay suggestedComDelay 0x00000100 0 = ⟨6, 8, 12⟩ := by decide

/-- R173. -/
theorem test_calc_minimum :
    calcTimes suggestedMemDelay suggestedComDelay 0x00000800 0x0000F000 = ⟨21, 38, 72⟩ := by decide

/-- R173. -/
theorem test_calc_maximum :
    calcTimes suggestedMemDelay suggestedComDelay 0x00000FF0 0x0000FFFF = ⟨46, 92, 184⟩ := by decide

/-- spec/95_test_vectors.md 2.8 row 4. -/
theorem test_addTicks_toggle :
    addTicks ⟨0, 10, 0x4D8, false, false⟩ 10 = (⟨0, 10, 0x8D8, false, true⟩, true) := by decide

/-- spec/95_test_vectors.md 2.8 row 13. -/
theorem test_addTicks_overflow :
    addTicks ⟨0xFFF0, 0x8000, 0, false, false⟩ 0x20 = (⟨0x11, 0x8000, 0x1400, false, true⟩, true) := by decide

/-! ## Witnesses: values that meet the hypotheses of the statements -/

/-- The last word of BIOS. -/
theorem witness_PacketServesItsRow :
    decoded ⟨.region, 0x20000000000000000BFC7FFFC⟩ = some (.regionBios 5 0x7FFFC (readOf .word)) ∧
      decodeRegion 0xBFC7FFFC (readOf .word) = .ok (.regionBios 5 0x7FFFC (readOf .word)) := ⟨by decide, rfl⟩

/-- The last byte of TIMERS. -/
theorem witness_PortRowsServeTheirRegion :
    decodePort 0x9F80112F (readOf .byte) = .ok (.portT2None 4 3 (readOf .byte)) := rfl

/-- Both sides of two region edges. -/
theorem witness_UnmappedAddresses :
    decodePhys (physAddr 0x1F801024) = none ∧ decodePhys (physAddr 0x1F801023) ≠ none ∧
      decodePhys (physAddr 0x00800000) = none ∧ decodePhys (physAddr 0x007FFFFF) ≠ none ∧
      decodePhys (physAddr 0xFFFFFFFF) = none := by decide

/-- Two segments of one address. -/
theorem witness_SegmentBitsNeverMatter :
    (0x80001000 : Word).toNat % 0x20000000 = (0xE0001000 : Word).toNat % 0x20000000 := by decide

/-- The last word of RAM, in the first and the last mirror. -/
theorem witness_RamRoundTripThroughMirrors :
    Memory.wf State.reset.ram = true ∧ (0 : Word).getLsbD 31 = false ∧
      (0x801FFFFC : Word).toNat % 0x20000000 < 0x800000 ∧ (0xA07FFFFC : Word).toNat % 0x20000000 < 0x800000 ∧
      (0x801FFFFC : Word).toNat % 0x200000 = (0xA07FFFFC : Word).toNat % 0x200000 ∧
      (0x801FFFFC : Word).toNat % 4 = 0 := by decide

/-- `EXEC 100` presented after reset. -/
theorem witness_StepRunsDecoded :
    (State.reset.withFetchWord 100 0x9000000640000000000000000).inbox =
        [⟨tableCarrier 100 0x9000000640000000000000000, ⟨[], none⟩⟩] ∧
      decoded (tableCarrier 100 0x9000000640000000000000000) = some (.exec 100) := by decide

/-- An empty inbox, and a hole of the map. -/
theorem witness_StepWaitsOrAnswers :
    State.reset.inbox = [] ∧
      (State.reset.withFetchWord 32 0x1F801030).inbox = [⟨tableCarrier 32 0x1F801030, ⟨[], none⟩⟩] ∧
      decode (tableCarrier 32 0x1F801030) = .error .noRegionRow := ⟨by decide, by decide, rfl⟩

/-- StepWaitsOrAnswers: the first and the last word of no region. -/
theorem witness_StepWaitsOrAnswers_hole :
    Unmapped ((0x00800000 : Word).toNat % 0x20000000) ∧ (0x00800000 : Word).toNat % nbytes .word = 0 ∧
      Unmapped ((0xFFFFFFFC : Word).toNat % 0x20000000) ∧ (0xFFFFFFFC : Word).toNat % nbytes .word = 0 ∧
      (0 : Word).getLsbD 31 = false := by unfold Unmapped; decide

/-- One refusal and one invalid access. -/
theorem witness_EveryOperationAnswers :
    (view (fun t => t.response.status) (exec .reserved3 State.reset) = some (.refused .reservedOp)) ∧
      view (fun t => t.response.status) (exec (.rw 0x1F801024 0) State.reset) = some .invalid := by decide

/-- A packet of zeros. -/
theorem witness_PacketStepsNeverStop :
    (State.reset.withFetchWord 100 0).inbox = [⟨tableCarrier 100 0, ⟨[], none⟩⟩] ∧ (tableCarrier 100 0).form = .packet := by decide

/-- A store step from a legal state. -/
theorem witness_StepKeepsLegal :
    State.legal (State.reset.withFetchWord 100 0x6000010001122334400000000) = true ∧
      view (fun t => t.inbox) (step (State.reset.withFetchWord 100 0x6000010001122334400000000)) = some [] := by decide

/-- A MEMCTRL write that moves a table. -/
theorem witness_TablesFollowMemctrl :
    State.tablesCurrent State.reset = true ∧
      view (fun t => t.biosTime) (exec (.ww 0x1F801010 0x0013343F 0) State.reset) = some ⟨7, 7, 13⟩ := by decide

/-- The three sources each request one interrupt. -/
theorem witness_InterruptSources :
    view (fun t => t.trace) (exec (.exec 1) (withT0 ⟨0xFFFE, 0, 0, false, false⟩)) =
        some [.irq 4, .setDowncount 0x7FFFFFFF] ∧
      view (fun t => t.trace) (exec (.xclk 0 1) (withT0 ⟨0xFFFE, 0, 0x100, false, false⟩)) = some [.irq 4] ∧
      view (fun t => t.trace) (exec (.portT0Mode 0 0 ⟨.read, .word, 0, 1⟩) (withT0 ⟨0xFFFE, 0, 0, false, false⟩)) =
        some [.synchronize, .irq 4, .setDowncount 0x7FFFFFFF] := by decide

/-- A mode write without pending ticks, and a target write. -/
theorem witness_OwnershipOfState :
    view (fun t => (t.carry, t.timers.t0.gate)) (exec (.ww 0x1F801104 0x58 0) State.reset) = some (0, false) ∧
      Instr.synchronizes (.ww 0x1F801104 0x58 0) = true ∧ Instr.pend (.ww 0x1F801104 0x58 0) = 0 ∧
      Instr.synchronizes (.ww 0x1F801108 0x58 9) = false := by decide

/-- The last word of RAM, and a misaligned halfword. -/
theorem witness_RamRows :
    (0x7FFFFFFF : Word).getLsbD 31 = false ∧ (0x1FFFFC : BitVec 21).toNat % nbytes .word = 0 ∧
      (0x1FFFFF : BitVec 21).toNat % nbytes .half ≠ 0 ∧ Memory.wf State.reset.ram = true := by decide

/-- The last halfword of the last mirror. -/
theorem witness_RamPackets :
    (0 : Word).getLsbD 31 = false ∧ (0x807FFFFE : Word).toNat % 0x20000000 < 0x800000 ∧
      (0x807FFFFE : Word).toNat % nbytes .half = 0 ∧ (0x807FFFFE : Word).toNat % nbytes .word ≠ 0 ∧
      Memory.wf State.reset.ram = true := by decide

/-- The last halfword of the scratchpad. -/
theorem witness_ScratchpadRow :
    (0x3FE : BitVec 10).toNat % nbytes .half = 0 ∧ (0x3FE : BitVec 10).toNat % nbytes .word ≠ 0 ∧
      Memory.wf State.reset.scratch = true ∧ (0 : Word).getLsbD 31 = false := by decide

/-- The last word of BIOS. -/
theorem witness_BiosRow :
    (0x7FFFC : BitVec 19).toNat % nbytes .word = 0 ∧ (0x7FFFF : BitVec 19).toNat % nbytes .half ≠ 0 ∧
      (0 : Word).getLsbD 31 = false := by decide

/-- The last byte of EXP1 and the sentinel. -/
theorem witness_Exp1Row :
    (0x7FFFFF : BitVec 23).toNat % nbytes .byte = 0 ∧ (0x7FFFFF : BitVec 23).toNat % nbytes .word ≠ 0 ∧
      (0x20018 : BitVec 23).toNat % nbytes .word = 0 ∧ (0 : Word).getLsbD 31 = false := by decide

/-- The TTY port and a misaligned word. -/
theorem witness_Exp2Row :
    (0x23 : BitVec 13).toNat % nbytes .byte = 0 ∧ (0x1FFE : BitVec 13).toNat % nbytes .word ≠ 0 ∧
      (0 : Word).getLsbD 31 = false ∧ Size.half ≠ .byte := by decide

/-- The characters of spec/95_test_vectors.md S3. -/
theorem witness_TtyLineAccumulates :
    ∀ c ∈ ([0x48, 0x69, 0x21] : List Byte), c ≠ 0x0D ∧ c ≠ 0x0A := by decide

/-- The last word of SIO. -/
theorem witness_SioRow :
    (0xC : BitVec 4).toNat % nbytes .word = 0 ∧ (0xF : BitVec 4).toNat % nbytes .half ≠ 0 ∧
      (0 : Word).getLsbD 31 = false := by decide

/-- The last lane REGION_MEMCTRL_a holds. -/
theorem witness_MemctrlReads :
    (0 : Word).getLsbD 31 = false ∧ (0x1F : BitVec 5).toNat = 4 * mcIndex .exp2Delay + (3 : BitVec 2).toNat := by decide

/-- The first lane REGION_MEMCTRL_a holds. -/
theorem witness_MemctrlWrites :
    (0x7FFFFFFF : Word).getLsbD 31 = false ∧ (0 : BitVec 5).toNat = 4 * mcIndex .exp1Base + (0 : BitVec 2).toNat := by decide

/-- Both `pend` operands at an end of their range. -/
theorem witness_MemctrlWriteThenRead :
    (0 : Word).getLsbD 31 = false ∧ (0x7FFFFFFF : Word).getLsbD 31 = false := by decide

/-- The largest `pend`. -/
theorem witness_Memctrl2Registers :
    (0x7FFFFFFF : Word).getLsbD 31 = false := by decide

/-- The last halfword of PAD. -/
theorem witness_PadRow :
    (0xE : BitVec 4).toNat % nbytes .half = 0 ∧ (0xE : BitVec 4).toNat % nbytes .word ≠ 0 ∧
      (0 : Word).getLsbD 31 = false := by decide

/-- The last byte of each region. -/
theorem witness_IntcAndDmaRows :
    (∃ (seg : BitVec 3) (low : BitVec 3), Instr.regionIntc 0 7 = .regionIntc seg low ∧
        Collab.intc = .intc ∧ 7 = low.toNat) ∧
      ∃ (seg : BitVec 3) (low : BitVec 7), Instr.regionDma 0 0x7F = .regionDma seg low ∧
        Collab.dma = .dma ∧ 0x7F = low.toNat := ⟨⟨0, 7, rfl, rfl, rfl⟩, ⟨0, 0x7F, rfl, rfl, rfl⟩⟩

/-- An aligned and a misaligned halfword. -/
theorem witness_CdromRow :
    (0 : Word).getLsbD 31 = false ∧ Size.half ≠ .byte ∧ (3 : BitVec 2).toNat % nbytes .half ≠ 0 ∧
      (2 : BitVec 2).toNat % nbytes .half = 0 := by decide

/-- An aligned word and a misaligned halfword. -/
theorem witness_GpuAndMdecRows :
    (∃ (seg : BitVec 3) (low : BitVec 3), Instr.regionGpu 0 4 = .regionGpu seg low ∧
        Collab.gpu = .gpu ∧ 4 = low.toNat ∧ low.toNat % 4 = 0 ∧ low.toNat % nbytes .half = 0) ∧
      ∃ (seg : BitVec 3) (low : BitVec 3), Instr.regionMdec 0 7 = .regionMdec seg low ∧
        Collab.mdec = .mdec ∧ 7 = low.toNat ∧ low.toNat % nbytes .half ≠ 0 := ⟨⟨0, 4, rfl, rfl, rfl, rfl, rfl⟩, ⟨0, 7, rfl, rfl, rfl, by decide⟩⟩

/-- The last word of REGION_SPU_a and the last byte of REGION_SPU_b. -/
theorem witness_SpuRows :
    (∃ (seg : BitVec 3) (low : BitVec 9), Instr.regionSpuA 0 0x1FC = .regionSpuA seg low ∧
        0x1FC = low.toNat ∧ low.toNat % 4 = 0) ∧
      ∃ (seg : BitVec 3) (low : BitVec 7), Instr.regionSpuB 0 0x7F = .regionSpuB seg low ∧
        0x27F = 0x200 + low.toNat ∧ (0x200 + low.toNat) % nbytes .half ≠ 0 := ⟨⟨0, 0x1FC, rfl, rfl, rfl⟩, ⟨0, 0x7F, rfl, rfl, by decide⟩⟩

/-- The last and the first unmapped word. -/
theorem witness_UnmappedPackets :
    (0 : Word).getLsbD 31 = false ∧ Unmapped ((0xFFFFFFFC : Word).toNat % 0x20000000) ∧
      (0xFFFFFFFC : Word).toNat % nbytes .word = 0 ∧ Unmapped ((0x00800000 : Word).toNat % 0x20000000) := by unfold Unmapped; decide

/-- Just past MEMCTRL and just past TIMERS. -/
theorem witness_MisalignedPackets :
    ¬ Adapted ((0x1F801025 : Word).toNat % 0x20000000) ∧ (0x1F801025 : Word).toNat % nbytes .half ≠ 0 ∧
      ¬ Adapted ((0x1F801131 : Word).toNat % 0x20000000) ∧ (0x1F801131 : Word).toNat % nbytes .word ≠ 0 := by unfold Adapted; decide

/-- The first reserved value of each operand. -/
theorem witness_ReservedValuesRefused :
    (0x80000000 : Word).getLsbD 31 = true ∧ 1 < (2 : Word).toNat ∧ 2 < (3 : Word).toNat ∧
      0x800000 < (0x800001 : Word).toNat ∧ (Instr.pend (.rb 0 0xFFFFFFFF)).getLsbD 31 = true := by decide

/-- TimerCounterPorts, TimerModePorts, TimerTargetPorts, TimerEmptyPorts: `pend` at both ends. -/
theorem witness_TimerPorts :
    (0 : Word).getLsbD 31 = false ∧ (0x7FFFFFFF : Word).getLsbD 31 = false := by decide

/-- The last byte of each row. -/
theorem witness_TimerRegionRows :
    (0x1F : BitVec 5).toNat = 16 * timerIndex .t1 + 4 * portIndex .none + (3 : BitVec 2).toNat ∧
      TimerId.t1 ≠ .t2 ∧ (0xF : BitVec 4).toNat = 4 * portIndex .none + (3 : BitVec 2).toNat := by decide

/-- Both sides of the limit. -/
theorem witness_ExecAdvances :
    (0x7FFFFFFF : Word).getLsbD 31 = false ∧ (0x80000000 : Word).getLsbD 31 = true := by decide

/-- The first reserved timer. -/
theorem witness_GateEdges :
    2 < (3 : Word).toNat := by decide

/-- Both sides of each limit. -/
theorem witness_XclkPulses :
    1 < (2 : Word).toNat ∧ (0x80000000 : Word).getLsbD 31 = true ∧ TimerId.t1 ≠ .t2 ∧
      (0x7FFFFFFF : Word).getLsbD 31 = false := by decide

/-- The last tick before and the first at the target. -/
theorem witness_AddTicksRequest :
    let t : Timer := ⟨0, 10, 0x498, false, false⟩;
      t.target.toNat ≤ t.counter.toNat + 10 ∧ t.counter.toNat < t.target.toNat ∧ t.mode.getLsbD 7 = true ∧
        ¬ (t.target.toNat ≤ t.counter.toNat + 9) ∧ Timer.mode ⟨0, 10, 0x18, false, false⟩ = 0x18 := by decide

/-- A timer that counts and resets at its target. -/
theorem witness_CountersAfterExec :
    (100 : Word).getLsbD 31 = false ∧ ticksReceived (withT0 ⟨0, 100, 0x58, false, false⟩) 100 .t0 = some 100 ∧
      (Timers.get (withT0 ⟨0, 100, 0x58, false, false⟩).timers .t0).mode.getLsbD 3 = true := by decide

/-- Forty ticks to the target. -/
theorem witness_DowncountIsTheNearestHorizon :
    Candidate (withT0 ⟨60, 100, 0x58, false, false⟩).timers 40 ∧ 0 < suggestedPlatform.downcountNone := ⟨⟨.t0, 40, by decide⟩, by decide⟩

/-- One tick less than the downcount. -/
theorem witness_DowncountPrecedesEventsBelowTarget :
    let s := withT0 ⟨60, 100, 0x78, false, false⟩;
      s.carry ≤ 7 ∧ 39 < computeDowncount s.platform.downcountNone s.timers ∧
        ticksReceived s 39 .t0 = some 39 ∧
        (Timers.get s.timers .t0).counter.toNat < (Timers.get s.timers .t0).target.toNat ∧
        (Timers.get s.timers .t0).mode.getLsbD 4 = true ∧ (Timers.get s.timers .t0).mode.getLsbD 5 = true := by decide

/-- Two periods of a timer with target 100. -/
theorem witness_ExactlyKInterrupts :
    let s := withT0 ⟨0, 100, 0x58, false, false⟩;
      let T := Timers.get s.timers .t0;
      countsByTable T = true ∧ externalByTable .t0 T = false ∧ T.mode.getLsbD 3 = true ∧
        T.mode.getLsbD 6 = true ∧ T.mode.getLsbD 7 = false ∧ 0 < T.target.toNat ∧
        T.counter.toNat < T.target.toNat ∧ totalTicks [100, 60, 40] = 2 * T.target.toNat ∧
        T.counter = 0 ∧ 2 * T.target.toNat < 2 ^ 31 := by decide

/-- ExactlyKInterrupts: no call passes the target. -/
theorem witness_withinTarget :
    withinTarget 100 0 [100, 60, 40] := ⟨by decide, by decide, by decide, trivial⟩

/-- Timer 2 on its divided clock, without and with reset at the target. -/
theorem witness_DividedClockLosesNoTicks :
    let s := withT2 ⟨0, 10, 0x200, false, false⟩ 7;
      let u := withT2 ⟨9, 10, 0x208, false, false⟩ 7;
      countsByTable s.timers.t2 = true ∧ externalByTable .t2 s.timers.t2 = true ∧
        countsByTable u.timers.t2 = true ∧ externalByTable .t2 u.timers.t2 = true ∧
        u.timers.t2.mode.getLsbD 3 = true ∧ ([79, 1] : List Word) ≠ [] ∧
        ∀ n ∈ ([79, 1] : List Word), n.getLsbD 31 = false := by
  refine ⟨by decide, by decide, by decide, by decide, by decide, by decide, fun n hn => ?_⟩
  simp only [List.mem_cons, List.not_mem_nil, or_false] at hn
  rcases hn with rfl | rfl <;> decide

/-- A one-shot timer, its one interrupt, and operations that are no mode write of it. -/
theorem witness_OneShotRaisesOnce :
    (Timers.get (withT0 ⟨0, 10, 0x18, false, false⟩).timers .t0).mode.getLsbD 6 = false ∧
      (∀ j ∈ ([.exec 10, .xclk 0 1, .ww 0x1F801108 5 0, .ww 0x1F801114 5 3] : List Instr),
        Instr.writesMode .t0 j = false ∧ j ≠ .reset ∧ j ≠ .load) ∧
      Instr.writesMode .t0 (.ww 0x9F801107 0 0) = true ∧
      view (fun t => (t.timers.t0.irqDone, t.trace)) (exec (.exec 10) (withT0 ⟨0, 10, 0x18, false, false⟩)) =
        some (true, [.irq 4, .setDowncount 10]) := by decide

/-- An image of the right length, and one a byte short. -/
theorem witness_ResetTable :
    State.reset.platform.biosImage.length = 0x80000 ∧ Memory.wf State.reset.platform.biosImage.cells = true ∧
      (⟨0x7FFFF, []⟩ : Image).length ≠ 0x80000 := by decide

/-- The last word of BIOS and the first past it. -/
theorem witness_PatchRewritesOneWord :
    0x1FC00000 ≤ (0xBFC7FFFC : Word).toNat % 0x20000000 ∧ (0xBFC7FFFC : Word).toNat % 0x20000000 < 0x1FC80000 ∧
      (0xBFC7FFFC : Word).toNat % 0x20000000 % 4 = 0 ∧ Memory.wf State.reset.bios = true ∧
      ¬ (0x1FC80000 : Word).toNat % 0x20000000 < 0x1FC80000 := by decide

/-- The largest length, and a payload of the announced length. -/
theorem witness_ExpromReplacesTheRom :
    (0x800000 : Word).toNat ≤ 0x800000 ∧ (⟨[0x11, 0x22], none⟩ : Payload).bytes.length = (2 : Word).toNat := by decide

/-- A snapshot that is well formed and one that is not. -/
theorem witness_SaveAndLoad :
    State.reset.payload.snapshot = none ∧ Snapshot.wellFormed (State.snapshot State.reset) = true ∧
      Snapshot.wellFormed { State.snapshot State.reset with carry := 8 } = false := by decide

/-- A legal state. -/
theorem witness_SaveLoadRoundTrip :
    State.legal State.reset = true := by decide

end Sys2Proof.Machine
end

namespace Sys2Proof

/-- A carrier that a row matches stands for that row's operation (R102). -/
theorem operationOf_of_decode_ok {k : Carrier} {i : Instr} (h : decode k = .ok i) :
    operationOf k = i := by
  rw [operationOf, h]

namespace Machine

/-- The state an operation is performed in: its carrier is off the queue and what travelled beside it is
in the payload field (notes/assumptions 1). -/
theorem State.take_eq (s : State) (p : Presented) (rest : List Presented) :
    State.take s p rest = { s with inbox := rest, payload := p.payload } := rfl

/-- A step serves the oldest presented carrier (R11, R23). -/
theorem step_of_inbox_cons {s : State} {p : Presented} {rest : List Presented}
    (h : s.inbox = p :: rest) :
    step s = exec (operationOf p.carrier) (State.take s p rest) := by
  rw [step, h]

/-- Settles O9: the step rule for a presented carrier, with the operation the carrier decodes to. -/
theorem stepRunsDecoded : Obligations.StepRunsDecoded := by
  intro s p rest i hinbox hdecode
  calc step s
      = exec (operationOf p.carrier) (State.take s p rest) := step_of_inbox_cons hinbox
    _ = exec i (State.take s p rest) := by rw [operationOf_of_decode_ok hdecode]
    _ = exec i { s with inbox := rest, payload := p.payload } := by rw [State.take_eq]

end Machine

end Sys2Proof

namespace Sys2Proof.Machine

/-! ### What an operation can do, said once

`Change` lists what an operation can make of the state before it responds, `exec_answers` proves that the
list is complete, and the invariants and frames below are case splits over it. -/

/-- The timer after a request to one of its ports (R222 to R228). -/
def timerAfterAccess (x : Access) (off : Nat) (p : TimerPort) (t : Timer) : Timer :=
  match x.dir with
  | .read => timerAfterRead t p
  | .write => timerAfterWrite t (laneWrite x off) p

/-- `Change s i u`: before it responds, operation `i` may have made `u` of the state `s`. A request to a
timer port records that it is one of the requests `Instr.synchronizes` and `Instr.writesMode` speak of. -/
inductive Change (s : State) : Instr → State → Prop
  /-- A read of the block's own state, a dropped write, a refusal, an invalid access. -/
  | kept (i : Instr) : Change s i s
  | ramStored (i : Instr) (off v n : Nat) (hoff : off + n ≤ 0x200000) :
      Change s i { s with ram := storeWrite s.ram off v n }
  | scratchStored (i : Instr) (off v n : Nat) (hoff : off + n ≤ 0x400) :
      Change s i { s with scratch := storeWrite s.scratch off v n }
  | memctrlStored (i : Instr) (m : MemCtrl) : Change s i (State.recalculate { s with memctrl := m })
  | ramSizeStored (i : Instr) (v : Word) : Change s i { s with ramSizeReg := v }
  /-- Forwarded accesses, characters of the TTY port and POST codes: events, none an interrupt. -/
  | logged (i : Instr) (es : List Event) (line : List Byte) (answers : List Word) (reads : Nat)
      (hes : ∀ id, .irq id ∉ es) :
      Change s i { s with trace := s.trace ++ es, ttyLine := line, answers := answers,
                          collabReads := reads }
  | timerAccess (i : Instr) (j : TimerId) (p : TimerPort) (off : Nat) (x : Access)
      (hsync : portSynchronizes p = true → Instr.synchronizes i = true)
      (hpend : Instr.pend i = x.pend)
      (hmode : x.dir = .write → p = .mode → Instr.writesMode j i = true) :
      Change s i (State.setTimer (State.portReady s p x.pend) j
        (timerAfterAccess x off p (State.timer (State.portReady s p x.pend) j)))
  | executed (n : Word) : Change s (.exec n) (executed s n.toNat)
  | gateSet (k l : Word) (j : TimerId) (level : Bool) :
      Change s (.gate k l) (State.setTimer s j (setGate (State.timer s j) level))
  | pulsed (k n : Word) (j : TimerId) :
      Change s (.xclk k n)
        { s with
          timers := Timers.set s.timers j (Machine.addTicks (Timers.get s.timers j) n.toNat).1
          trace := s.trace ++ requested s.platform j (Timers.get s.timers j) (some n.toNat) }
  | patched (a v m : Word) (off : Nat) (hoff : off + 4 ≤ 0x80000) :
      Change s (.patch a v m) { s with bios := patchWord s.bios off v m }
  | romReplaced (n : Word) (rom : List Byte) (hrom : rom.length ≤ 0x800000) :
      Change s (.exprom n) { s with exp1Rom := rom }
  | saved : Change s .save { s with saved := some (State.snapshot s) }
  | restored (n : Snapshot) (hn : Snapshot.wellFormed n = true) : Change s .load (State.restore s n)
  | reset (hlen : s.platform.biosImage.length = 0x80000) :
      Change s .reset { State.afterReset s.platform with
        inbox := s.inbox, payload := s.payload, saved := s.saved, answers := s.answers
        collabReads := s.collabReads }

/-- `t` is a change of `s` by operation `i`, with a response. -/
def Answered (s : State) (i : Instr) (t : State) : Prop :=
  ∃ u st d k, t = State.respond u st d k ∧ Change s i u

section Answers

variable {s u : State} {i : Instr}

theorem answered_served {x : Access} {d : Word} {k : Nat} (h : Change s i u) :
    Answered s i (State.served u x d k) :=
  ⟨u, _, _, _, rfl, h⟩

theorem answered_refuse (r : RefuseReason) : Answered s i (State.refuse s r) :=
  ⟨s, _, _, _, rfl, .kept i⟩

theorem answered_invalid (x : Access) : Answered s i (State.invalid s x) :=
  ⟨s, _, _, _, rfl, .kept i⟩

theorem answered_done (h : Change s i u) : Answered s i (State.done u) :=
  ⟨u, _, _, _, rfl, h⟩

/-- A guarded request answers if what it serves answers, given the alignment the guard leaves. -/
theorem answered_guardRequest {ad : Bool} {pa : Nat} {x : Access} {f : State → State}
    (h : (ad = true ∨ aligned x.size pa = true) → Answered s i (f s)) :
    Answered s i (guardRequest ad pa x f s) := by
  rcases guardRequest_cases ad pa x f s with ⟨_, e⟩ | ⟨_, _, _, e⟩ | ⟨_, ha, e⟩ <;> rw [e]
  · exact answered_refuse _
  · exact answered_refuse _
  · exact h ha

theorem change_emit {e : Event} (he : ∀ id, e ≠ .irq id) : Change s i (State.emit s e) :=
  .logged i [e] s.ttyLine s.answers s.collabReads fun id h => he id (List.mem_singleton.mp h).symm

theorem change_collabWrite (c : Collab) (off : Nat) (z : Size) (v : Word) :
    Change s i (State.collabWrite s c off z v) :=
  change_emit nofun

theorem change_afterCollabRead (c : Collab) (off : Nat) (z : Size) :
    Change s i (State.afterCollabRead s c off z) :=
  .logged i [.collabRead c off z] s.ttyLine s.answers.tail (s.collabReads + 1) (by simp)

/-- The two halves of a forwarded word read. -/
theorem change_afterCollabRead_twice (c : Collab) (o o' : Nat) (z : Size) :
    Change s i (State.afterCollabRead (State.afterCollabRead s c o z) c o' z) := by
  have h := Change.logged (s := s) i [.collabRead c o z, .collabRead c o' z] s.ttyLine
    s.answers.tail.tail (s.collabReads + 1 + 1) (by simp)
  simpa [State.afterCollabRead] using h

/-- The two halves of a forwarded word write. -/
theorem change_collabWrite_twice (c : Collab) (o o' : Nat) (z : Size) (v w : Word) :
    Change s i (State.collabWrite (State.collabWrite s c o z v) c o' z w) := by
  have h := Change.logged (s := s) i [.collabWrite c o z v, .collabWrite c o' z w] s.ttyLine
    s.answers s.collabReads (by simp)
  simpa [State.collabWrite, State.emit] using h

theorem change_ttyWrite (ch : Byte) : Change s i (State.ttyWrite s ch) := by
  unfold State.ttyWrite
  split
  · exact .kept i
  · split
    · exact .logged i [.ttyLine s.ttyLine] [] s.answers s.collabReads (by simp)
    · simpa using Change.logged (s := s) i [] (s.ttyLine ++ [ch]) s.answers s.collabReads (by simp)

theorem change_exp2Write (off : Nat) (v : Word) : Change s i (State.exp2Write s off v) := by
  unfold State.exp2Write
  split
  · exact change_ttyWrite _
  · split
    · exact change_emit nofun
    · exact .kept i

theorem change_memctrlWrite (r : McReg) (v : Word) : Change s i (State.memctrlWrite s r v) := by
  unfold State.memctrlWrite
  dsimp only
  split
  · exact .memctrlStored i _
  · exact .kept i

variable {x : Access} {off : Nat}

theorem answered_serveRam (h : off + nbytes x.size ≤ 0x200000) : Answered s i (serveRam off x s) := by
  unfold serveRam
  split
  · exact answered_served (.kept i)
  · exact answered_served (.ramStored i _ _ _ h)

theorem answered_serveScratch (h : off + nbytes x.size ≤ 0x400) :
    Answered s i (serveScratch off x s) := by
  unfold serveScratch
  split
  · exact answered_served (.kept i)
  · exact answered_served (.scratchStored i _ _ _ h)

theorem answered_serveExp2 : Answered s i (serveExp2 off x s) := by
  unfold serveExp2
  split
  · exact answered_served (.kept i)
  · exact answered_served (change_exp2Write _ _)

theorem answered_serveMemctrlReg (r : McReg) : Answered s i (serveMemctrlReg r off x s) := by
  unfold serveMemctrlReg
  split
  · exact answered_served (.kept i)
  · exact answered_served (change_memctrlWrite _ _)

theorem answered_serveMemctrl2 : Answered s i (serveMemctrl2 off x s) := by
  unfold serveMemctrl2
  split
  · exact answered_served (.kept i)
  · exact answered_served (.ramSizeStored i _)

theorem answered_servePad : Answered s i (servePad off x s) := by
  unfold servePad
  split
  · exact answered_served (change_afterCollabRead _ _ _)
  · exact answered_served (change_collabWrite _ _ _ _)

theorem answered_serveLanes (c : Collab) : Answered s i (serveLanes c off x s) := by
  unfold serveLanes
  split
  · exact answered_served (change_afterCollabRead _ _ _)
  · exact answered_served (change_collabWrite _ _ _ _)

theorem answered_serveCdrom : Answered s i (serveCdrom off x s) := by
  unfold serveCdrom
  split
  · split
    · exact answered_served (change_afterCollabRead _ _ _)
    · exact answered_served (change_collabWrite _ _ _ _)
  · exact answered_refuse _
  · exact answered_refuse _

theorem answered_serveWordPort (c : Collab) : Answered s i (serveWordPort c off x s) := by
  unfold serveWordPort
  split
  · split
    · exact answered_served (change_afterCollabRead _ _ _)
    · exact answered_served (change_collabWrite _ _ _ _)
  · exact answered_invalid x
  · exact answered_invalid x

theorem answered_serveSpu : Answered s i (serveSpu off x s) := by
  unfold serveSpu
  split
  · exact answered_invalid x
  · split
    · exact answered_served (change_afterCollabRead _ _ _)
    · exact answered_served (change_collabWrite _ _ _ _)
  · split
    · exact answered_served (change_afterCollabRead_twice _ _ _ _)
    · exact answered_served (change_collabWrite_twice _ _ _ _ _ _)

theorem answered_serveTimerPort {j : TimerId} {p : TimerPort}
    (hsync : portSynchronizes p = true → Instr.synchronizes i = true)
    (hpend : Instr.pend i = x.pend)
    (hmode : x.dir = .write → p = .mode → Instr.writesMode j i = true) :
    Answered s i (serveTimerPort j p off x s) := by
  have h : Change s i _ := .timerAccess i j p off x hsync hpend hmode
  unfold timerAfterAccess at h
  unfold serveTimerPort
  cases hd : x.dir <;> rw [hd] at h <;> exact answered_served h

/-- A synchronizing port lies in the lower half of its timer's group (R98, R220). -/
theorem lt_eight_of_portSynchronizes (h : portSynchronizes (portOfOffset (regOff off)) = true) :
    off % 16 < 8 := by
  unfold portOfOffset regOff at h
  split_ifs at h
  · omega
  · omega
  · cases h
  · cases h

/-- The mode port of a timer is the second word of its group (R98). -/
theorem div_four_of_portOfOffset_mode (hoff : off < 0x30)
    (h : portOfOffset (regOff off) = .mode) :
    off / 4 = 4 * timerIndex (timerOfOffset (regOff off)) + 1 := by
  unfold portOfOffset regOff at h
  unfold timerOfOffset regOff
  split_ifs at h
  split_ifs <;> simp only [timerIndex] <;> omega

theorem answered_serveTimers (hoff : off < 0x30)
    (hsync : off % 16 < 8 → Instr.synchronizes i = true) (hpend : Instr.pend i = x.pend)
    (hmode : ∀ j, x.dir = .write → off / 4 = 4 * timerIndex j + 1 → Instr.writesMode j i = true) :
    Answered s i (serveTimers off x s) :=
  answered_serveTimerPort (fun h => hsync (lt_eight_of_portSynchronizes h)) hpend
    fun hd hp => hmode _ hd (div_four_of_portOfOffset_mode hoff hp)

/-- What is known of the offset of a request when the request is to RAM, SCRATCHPAD or TIMERS. -/
structure InRegion (i : Instr) (x : Access) (r : Region) (off : Nat) : Prop where
  ram : r = .ram → off < 0x200000
  scratchpad : r = .scratchpad → off < 0x400
  timers : r = .timers → off < 0x30 ∧ (off % 16 < 8 → Instr.synchronizes i = true) ∧
    ∀ j, x.dir = .write → off / 4 = 4 * timerIndex j + 1 → Instr.writesMode j i = true

theorem answered_serveRegion {r : Region} (ha : adapted r = true ∨ aligned x.size off = true)
    (hr : InRegion i x r off) (hpend : Instr.pend i = x.pend) :
    Answered s i (serveRegion r off x s) := by
  cases r with
  | ram =>
    exact answered_serveRam (aligned_end_le (ha.resolve_left nofun) (hr.ram rfl) rfl)
  | scratchpad =>
    exact answered_serveScratch (aligned_end_le (ha.resolve_left nofun) (hr.scratchpad rfl) rfl)
  | exp1 => exact answered_served (.kept i)
  | memctrl => exact answered_serveMemctrlReg _
  | pad => exact answered_servePad
  | sio => exact answered_served (.kept i)
  | memctrl2 => exact answered_serveMemctrl2
  | intc => exact answered_serveLanes _
  | dma => exact answered_serveLanes _
  | timers =>
    obtain ⟨hoff, hsync, hmode⟩ := hr.timers rfl
    exact answered_serveTimers hoff hsync hpend hmode
  | cdrom => exact answered_serveCdrom
  | gpu => exact answered_serveWordPort _
  | mdec => exact answered_serveWordPort _
  | spu => exact answered_serveSpu
  | exp2 => exact answered_serveExp2
  | bios => exact answered_served (.kept i)

theorem InRegion.of_ne {r : Region} (h1 : r ≠ .ram) (h2 : r ≠ .scratchpad) (h3 : r ≠ .timers) :
    InRegion i x r off :=
  ⟨fun h => absurd h h1, fun h => absurd h h2, fun h => absurd h h3⟩

/-- A region row serves its region. -/
theorem answered_regionRow {r : Region} (hr : InRegion i x r off) (hpend : Instr.pend i = x.pend) :
    Answered s i (guardRequest (adapted r) off x (serveRegion r off x) s) :=
  answered_guardRequest fun ha => answered_serveRegion ha hr hpend

end Answers

/-- The offset of a decoded address has the address's alignment, and lies in its region. -/
theorem decodePhys_offset {pa off : Nat} {r : Region} (hpa : pa < 0x20000000)
    (h : decodePhys pa = some (r, off)) :
    pa % 4 = off % 4 ∧ (r = .ram → off < 0x200000) ∧ (r = .scratchpad → off < 0x400) ∧
      (r = .timers → pa = 0x1F801100 + off ∧ off < 0x30) := by
  rcases decodePhys_cases hpa h with h | h | h | h | h | h | h | h | h | h | h | h | h | h | h | h | h
  case inr.inr.inr.inr.inr.inr.inr.inr.inr.inr.inr.inr.inr.inr.inr.inr => cases h.2
  case inl =>
    obtain ⟨_, e⟩ := h
    cases e
    exact ⟨by omega, fun _ => by omega, nofun, nofun⟩
  all_goals
    obtain ⟨hlo, hhi, e⟩ := h
    cases e
    refine ⟨by omega, nofun, ?_, ?_⟩ <;> intro hr <;> cases hr <;> omega

/-- A bus packet to an address in a region makes one of the region's changes. -/
theorem answered_request {s : State} {i : Instr} {a : Word} {x : Access}
    (hsync : syncAddress a = true → Instr.synchronizes i = true)
    (hpend : Instr.pend i = x.pend)
    (hmode : ∀ j, x.dir = .write → modeAddress j a = true → Instr.writesMode j i = true) :
    Answered s i (request a x s) := by
  unfold request
  have hpa : physAddr a < 0x20000000 := by rw [physAddr_eq_mod]; omega
  split
  next r off h =>
    obtain ⟨h4, hram, hscratch, htimers⟩ := decodePhys_offset hpa h
    rw [guardRequest_congr h4]
    refine answered_regionRow ⟨hram, hscratch, fun hr => ?_⟩ hpend
    obtain ⟨hbase, hoff⟩ := htimers hr
    rw [physAddr_eq_mod] at hbase
    refine ⟨hoff, fun h8 => hsync ?_, fun j hd hj => hmode j hd ?_⟩
    · simp only [syncAddress, Bool.and_eq_true, decide_eq_true_eq]
      omega
    · simp only [modeAddress, decide_eq_true_eq]
      omega
  · exact answered_guardRequest fun _ => answered_invalid x

/-! ### Every operation answers with one of its changes -/

/-- The operation answers with one of its changes and a response. -/
def Answers (s : State) (i : Instr) : Prop :=
  ∃ t, exec i s = .next t ∧ Answered s i t

section Rows

variable {s : State}

theorem exec_memctrlPort (r : McReg) (seg : BitVec 3) (lane : BitVec 2) (x : Access) (s : State) :
    exec (memctrlPort r seg lane x) s =
      .next (guardRequest true lane.toNat x (serveMemctrlReg r lane.toNat x) s) := by
  cases r <;> rfl

theorem exec_timerPort (j : TimerId) (p : TimerPort) (seg : BitVec 3) (lane : BitVec 2) (x : Access)
    (s : State) :
    exec (timerPort j p seg lane x) s =
      .next (guardRequest true lane.toNat x (serveTimerPort j p lane.toNat x) s) := by
  cases j <;> cases p <;> rfl

theorem synchronizes_timerPort (j : TimerId) (p : TimerPort) (seg : BitVec 3) (lane : BitVec 2)
    (x : Access) : Instr.synchronizes (timerPort j p seg lane x) = portSynchronizes p := by
  cases j <;> cases p <;> rfl

theorem pend_timerPort (j : TimerId) (p : TimerPort) (seg : BitVec 3) (lane : BitVec 2) (x : Access) :
    Instr.pend (timerPort j p seg lane x) = x.pend := by
  cases j <;> cases p <;> rfl

theorem writesMode_timerPort_mode (j : TimerId) (seg : BitVec 3) (lane : BitVec 2) (x : Access) :
    Instr.writesMode j (timerPort j .mode seg lane x) = decide (x.dir = .write) := by
  cases j <;> simp [timerPort, Instr.writesMode]

theorem answers_memctrlPort (r : McReg) (seg : BitVec 3) (lane : BitVec 2) (x : Access) :
    Answers s (memctrlPort r seg lane x) :=
  ⟨_, exec_memctrlPort r seg lane x s, answered_guardRequest fun _ => answered_serveMemctrlReg r⟩

theorem answers_timerPort (j : TimerId) (p : TimerPort) (seg : BitVec 3) (lane : BitVec 2)
    (x : Access) : Answers s (timerPort j p seg lane x) := by
  refine ⟨_, exec_timerPort j p seg lane x s, answered_guardRequest fun _ =>
    answered_serveTimerPort (fun h => ?_) (pend_timerPort j p seg lane x) fun hd hp => ?_⟩
  · rw [synchronizes_timerPort, h]
  · rw [hp, writesMode_timerPort_mode, hd]
    rfl

/-- The row of a debug port of EXP2 serves the offset of its port. -/
theorem exec_portExp2TtyData (seg : BitVec 3) (x : Access) (s : State) :
    exec (.portExp2TtyData seg x) s = .next (guardRequest false 0x23 x (serveExp2 0x23 x) s) := rfl

theorem exec_portExp2Post (seg : BitVec 3) (x : Access) (s : State) :
    exec (.portExp2Post seg x) s = .next (guardRequest false 0x41 x (serveExp2 0x41 x) s) := rfl

/-- Every row of the timer region in one form: the offset in the region and what the row says of it. -/
theorem answered_timersRow {i : Instr} {off : Nat} {x : Access} (hoff : off < 0x30)
    (hsync : Instr.synchronizes i = decide (off % 16 < 8)) (hpend : Instr.pend i = x.pend)
    (hmode : ∀ j, Instr.writesMode j i =
      (decide (x.dir = .write) && decide (off / 4 = 4 * timerIndex j + 1))) :
    Answered s i (guardRequest true off x (serveTimers off x) s) :=
  answered_guardRequest fun _ =>
    answered_serveTimers hoff (fun h => by rw [hsync, decide_eq_true h]) hpend
      fun j hd hj => by rw [hmode, decide_eq_true hd, decide_eq_true hj]; rfl

theorem answers_exec (n : Word) : Answers s (.exec n) := by
  show ∃ t, execExec n s = .next t ∧ _
  unfold execExec
  split
  · exact ⟨_, rfl, answered_refuse _⟩
  · rw [State.execute_eq]
    exact ⟨_, rfl, answered_done (.executed n)⟩

theorem answers_gate (k l : Word) : Answers s (.gate k l) := by
  show ∃ t, execGate k l s = .next t ∧ _
  unfold execGate
  split
  · exact ⟨_, rfl, answered_refuse _⟩
  · exact ⟨_, rfl, answered_done (.gateSet k l _ _)⟩

theorem answers_xclk (k n : Word) : Answers s (.xclk k n) := by
  show ∃ t, execXclk k n s = .next t ∧ _
  unfold execXclk
  split
  · exact ⟨_, rfl, answered_refuse _⟩
  · exact ⟨_, rfl, answered_refuse _⟩
  · split
    · exact ⟨_, rfl, answered_refuse _⟩
    · split
      · rw [State.addTicks_eq]
        exact ⟨_, rfl, answered_done (.pulsed k n _)⟩
      · exact ⟨_, rfl, answered_done (.kept _)⟩

theorem answers_patch (a v m : Word) : Answers s (.patch a v m) := by
  show ∃ t, execPatch a v m s = .next t ∧ _
  unfold execPatch
  dsimp only
  split
  · exact ⟨_, rfl, answered_refuse _⟩
  · exact ⟨_, rfl, answered_done (.patched a v m _ (by omega))⟩

theorem romBytes_length (n k : Nat) (bs : List Byte) : (romBytes n k bs).length = n := by
  induction n generalizing k bs with
  | zero => rfl
  | succ n ih => cases bs <;> simp [romBytes, ih]

theorem answers_exprom (n : Word) : Answers s (.exprom n) := by
  show ∃ t, execExprom n s = .next t ∧ _
  unfold execExprom
  split
  · exact ⟨_, rfl, answered_refuse _⟩
  · exact ⟨_, rfl, answered_done (.romReplaced n _ (by rw [romBytes_length]; omega))⟩

theorem answers_load : Answers s .load := by
  show ∃ t, execLoad s = .next t ∧ _
  unfold execLoad
  split
  · exact ⟨_, rfl, answered_refuse _⟩
  · split
    next hn => exact ⟨_, rfl, answered_done (.restored _ hn)⟩
    · exact ⟨_, rfl, answered_refuse _⟩

theorem answers_reset : Answers s .reset := by
  show ∃ t, execReset s = .next t ∧ _
  unfold execReset
  split
  next hlen => exact ⟨_, rfl, _, .ok, 0, 0, rfl, .reset hlen⟩
  · exact ⟨_, rfl, answered_refuse _⟩

/-- Every operation answers a next state, and what it can have changed is a `Change`. -/
theorem exec_answers (i : Instr) (s : State) : Answers s i := by
  cases i with
  | rb a pend => exact ⟨_, rfl, answered_request id rfl nofun⟩
  | rh a pend => exact ⟨_, rfl, answered_request id rfl nofun⟩
  | rw a pend => exact ⟨_, rfl, answered_request id rfl nofun⟩
  | wb a b pend => exact ⟨_, rfl, answered_request id rfl fun _ _ => id⟩
  | wh a b pend => exact ⟨_, rfl, answered_request id rfl fun _ _ => id⟩
  | ww a b pend => exact ⟨_, rfl, answered_request id rfl fun _ _ => id⟩
  | reserved3 => exact ⟨_, rfl, answered_refuse _⟩
  | reserved7 => exact ⟨_, rfl, answered_refuse _⟩
  | reset => exact answers_reset
  | exec n => exact answers_exec n
  | gate k l => exact answers_gate k l
  | xclk k n => exact answers_xclk k n
  | patch a v m => exact answers_patch a v m
  | exprom n => exact answers_exprom n
  | save => exact ⟨_, rfl, answered_done .saved⟩
  | load => exact answers_load
  | regionRam seg mir off x =>
    exact ⟨_, rfl, answered_regionRow (r := .ram) ⟨fun _ => off.isLt, nofun, nofun⟩ rfl⟩
  | regionScratchpad seg low x =>
    exact ⟨_, rfl, answered_regionRow (r := .scratchpad) ⟨nofun, fun _ => low.isLt, nofun⟩ rfl⟩
  | regionTimersA seg low x =>
    exact ⟨_, rfl, answered_timersRow (by omega) rfl rfl fun _ => rfl⟩
  | regionTimersB seg low x =>
    refine ⟨_, rfl, answered_timersRow (by omega) ?_ rfl fun _ => rfl⟩
    exact decide_eq_decide.mpr (by omega)
  | regionExp1 seg low x =>
    exact ⟨_, rfl, answered_regionRow (r := .exp1) (.of_ne nofun nofun nofun) rfl⟩
  | regionMemctrlA seg low x =>
    exact ⟨_, rfl, answered_regionRow (r := .memctrl) (.of_ne nofun nofun nofun) rfl⟩
  | regionMemctrlB seg low x =>
    exact ⟨_, rfl, answered_regionRow (r := .memctrl) (.of_ne nofun nofun nofun) rfl⟩
  | regionPad seg low x =>
    exact ⟨_, rfl, answered_regionRow (r := .pad) (.of_ne nofun nofun nofun) rfl⟩
  | regionSio seg low x =>
    exact ⟨_, rfl, answered_regionRow (r := .sio) (.of_ne nofun nofun nofun) rfl⟩
  | regionMemctrl2 seg low x =>
    exact ⟨_, rfl, answered_regionRow (r := .memctrl2) (.of_ne nofun nofun nofun) rfl⟩
  | regionIntc seg low x =>
    exact ⟨_, rfl, answered_regionRow (r := .intc) (.of_ne nofun nofun nofun) rfl⟩
  | regionDma seg low x =>
    exact ⟨_, rfl, answered_regionRow (r := .dma) (.of_ne nofun nofun nofun) rfl⟩
  | regionCdrom seg low x =>
    exact ⟨_, rfl, answered_regionRow (r := .cdrom) (.of_ne nofun nofun nofun) rfl⟩
  | regionGpu seg low x =>
    exact ⟨_, rfl, answered_regionRow (r := .gpu) (.of_ne nofun nofun nofun) rfl⟩
  | regionMdec seg low x =>
    exact ⟨_, rfl, answered_regionRow (r := .mdec) (.of_ne nofun nofun nofun) rfl⟩
  | regionSpuA seg low x =>
    exact ⟨_, rfl, answered_regionRow (r := .spu) (.of_ne nofun nofun nofun) rfl⟩
  | regionSpuB seg low x =>
    exact ⟨_, rfl, answered_regionRow (r := .spu) (.of_ne nofun nofun nofun) rfl⟩
  | regionExp2 seg low x =>
    exact ⟨_, rfl, answered_regionRow (r := .exp2) (.of_ne nofun nofun nofun) rfl⟩
  | regionBios seg low x =>
    exact ⟨_, rfl, answered_regionRow (r := .bios) (.of_ne nofun nofun nofun) rfl⟩
  | portMemctrl0 seg lane x => exact answers_memctrlPort .exp1Base seg lane x
  | portMemctrl1 seg lane x => exact answers_memctrlPort .exp2Base seg lane x
  | portMemctrl2 seg lane x => exact answers_memctrlPort .exp1Delay seg lane x
  | portMemctrl3 seg lane x => exact answers_memctrlPort .exp3Delay seg lane x
  | portMemctrl4 seg lane x => exact answers_memctrlPort .biosDelay seg lane x
  | portMemctrl5 seg lane x => exact answers_memctrlPort .spuDelay seg lane x
  | portMemctrl6 seg lane x => exact answers_memctrlPort .cdromDelay seg lane x
  | portMemctrl7 seg lane x => exact answers_memctrlPort .exp2Delay seg lane x
  | portMemctrl8 seg lane x => exact answers_memctrlPort .commonDelay seg lane x
  | portRamSizeReg seg lane x =>
    exact ⟨_, rfl, answered_guardRequest fun _ => answered_serveMemctrl2 (off := lane.toNat)⟩
  | portSioStat seg x => exact ⟨_, rfl, answered_guardRequest fun _ => answered_served (.kept _)⟩
  | portT0Counter seg lane x => exact answers_timerPort .t0 .counter seg lane x
  | portT0Mode seg lane x => exact answers_timerPort .t0 .mode seg lane x
  | portT0Target seg lane x => exact answers_timerPort .t0 .target seg lane x
  | portT0None seg lane x => exact answers_timerPort .t0 .none seg lane x
  | portT1Counter seg lane x => exact answers_timerPort .t1 .counter seg lane x
  | portT1Mode seg lane x => exact answers_timerPort .t1 .mode seg lane x
  | portT1Target seg lane x => exact answers_timerPort .t1 .target seg lane x
  | portT1None seg lane x => exact answers_timerPort .t1 .none seg lane x
  | portT2Counter seg lane x => exact answers_timerPort .t2 .counter seg lane x
  | portT2Mode seg lane x => exact answers_timerPort .t2 .mode seg lane x
  | portT2Target seg lane x => exact answers_timerPort .t2 .target seg lane x
  | portT2None seg lane x => exact answers_timerPort .t2 .none seg lane x
  | portExp1Ar seg x => exact ⟨_, rfl, answered_guardRequest fun _ => answered_served (.kept _)⟩
  | portExp2TtyStatus seg x =>
    exact ⟨_, rfl, answered_guardRequest fun _ => answered_served (.kept _)⟩
  | portExp2TtyData seg x =>
    exact ⟨_, exec_portExp2TtyData seg x s, answered_guardRequest fun _ => answered_serveExp2⟩
  | portExp2Post seg x =>
    exact ⟨_, exec_portExp2Post seg x s, answered_guardRequest fun _ => answered_serveExp2⟩

end Rows

/-- Inversion of `exec`: the next state of an operation is one of its changes with a response. -/
theorem answered_of_exec {i : Instr} {s t : State} (h : exec i s = .next t) : Answered s i t := by
  obtain ⟨t', e, ht'⟩ := exec_answers i s
  rw [e] at h
  cases h
  exact ht'

/-! ### `AddTicks` on a timer's record -/

theorem crossesTarget_iff (t : Timer) (n : Nat) :
    crossesTarget t n = true ↔
      t.target.toNat ≤ t.counter.toNat + n ∧ t.counter.toNat < t.target.toNat := by
  simp [crossesTarget]

theorem reachesOverflow_iff (t : Timer) (n : Nat) :
    reachesOverflow t n = true ↔ 0xFFFF ≤ t.counter.toNat + n := by
  simp [reachesOverflow]

/-- Without an event `AddTicks` moves the counter alone. -/
theorem addTicks_of_no_event {t : Timer} {n : Nat}
    (h : (crossesTarget t n || reachesOverflow t n) = false) :
    addTicks t n = ({ t with counter := wrapCounter t n }, false) := by
  obtain ⟨h1, h2⟩ := Bool.or_eq_false_iff.mp h
  simp [addTicks, noteEvents, h1, h2]

/-- With an event it notes the flags and raises the request once. -/
theorem addTicks_of_event {t : Timer} {n : Nat}
    (h : (crossesTarget t n || reachesOverflow t n) = true) :
    addTicks t n =
      ({ (raiseRequest (noteEvents t n)).1 with counter := wrapCounter t n },
        (raiseRequest (noteEvents t n)).2) := by
  simp only [addTicks, h, if_true]

/-- The flags are noted before the request, which reads none of them. -/
theorem noteEvents_mode_of_ne {t : Timer} {n k : Nat} (h11 : k ≠ 11) (h12 : k ≠ 12) :
    (noteEvents t n).mode.getLsbD k = t.mode.getLsbD k := by
  rw [(noteEvents_spec t n).2]
  simp [h11, h12]

theorem noteEvents_irqDone (t : Timer) (n : Nat) : (noteEvents t n).irqDone = t.irqDone := by
  rw [(noteEvents_spec t n).1]

theorem addTicks_counter (t : Timer) (n : Nat) : (addTicks t n).1.counter = wrapCounter t n := rfl

theorem addTicks_target (t : Timer) (n : Nat) : (addTicks t n).1.target = t.target := by
  cases h : crossesTarget t n || reachesOverflow t n
  · rw [addTicks_of_no_event h]
  · rw [addTicks_of_event h, (raiseRequest_spec _).1, (noteEvents_spec t n).1]

theorem addTicks_gate (t : Timer) (n : Nat) : (addTicks t n).1.gate = t.gate := by
  cases h : crossesTarget t n || reachesOverflow t n
  · rw [addTicks_of_no_event h]
  · rw [addTicks_of_event h, (raiseRequest_spec _).1, (noteEvents_spec t n).1]

/-- The latch is set by firing, and by nothing else. -/
theorem addTicks_irqDone (t : Timer) (n : Nat) :
    (addTicks t n).1.irqDone = (t.irqDone || (addTicks t n).2) := by
  cases h : crossesTarget t n || reachesOverflow t n
  · rw [addTicks_of_no_event h, Bool.or_false]
  · rw [addTicks_of_event h, (raiseRequest_spec _).1, noteEvents_irqDone]

/-- Every mode bit but the request line is what the noted events make it. -/
theorem addTicks_mode_of_ne {t : Timer} {n k : Nat} (h10 : k ≠ 10) :
    (addTicks t n).1.mode.getLsbD k =
      (t.mode.getLsbD k || (crossesTarget t n && decide (k = 11)) ||
        (reachesOverflow t n && decide (k = 12))) := by
  cases h : crossesTarget t n || reachesOverflow t n
  · obtain ⟨h1, h2⟩ := Bool.or_eq_false_iff.mp h
    simp [addTicks_of_no_event h, h1, h2]
  · rw [addTicks_of_event h, ← (noteEvents_spec t n).2 k]
    exact (raiseRequest_spec (noteEvents t n)).2.1 k h10

/-- Mode bits that are neither the request line nor a reached flag are kept. -/
theorem addTicks_mode_kept {t : Timer} {n k : Nat} (h10 : k ≠ 10) (h11 : k ≠ 11) (h12 : k ≠ 12) :
    (addTicks t n).1.mode.getLsbD k = t.mode.getLsbD k := by
  rw [addTicks_mode_of_ne h10]
  simp [h11, h12]

/-- The request line and the interrupt after an event, by pulse and by toggle. -/
theorem addTicks_request {t : Timer} {n : Nat}
    (h : (crossesTarget t n || reachesOverflow t n) = true) :
    (t.mode.getLsbD 7 = false → (addTicks t n).1.mode.getLsbD 10 = true ∧
      (addTicks t n).2 = !(!t.mode.getLsbD 6 && t.irqDone)) ∧
    (t.mode.getLsbD 7 = true → (addTicks t n).1.mode.getLsbD 10 = (!t.mode.getLsbD 10) ∧
      (addTicks t n).2 = (t.mode.getLsbD 10 && !(!t.mode.getLsbD 6 && t.irqDone))) := by
  obtain ⟨_, _, hpulse, htoggle⟩ := raiseRequest_spec (noteEvents t n)
  simp only [noteEvents_irqDone, noteEvents_mode_of_ne (show 6 ≠ 11 by decide) (by decide),
    noteEvents_mode_of_ne (show 7 ≠ 11 by decide) (by decide),
    noteEvents_mode_of_ne (show 10 ≠ 11 by decide) (by decide)] at hpulse htoggle
  rw [addTicks_of_event h]
  exact ⟨hpulse, htoggle⟩

theorem wrapCounter_toNat (t : Timer) (n : Nat) :
    (wrapCounter t n).toNat =
      if t.mode.getLsbD 3 then
        (if t.target = 0 then 0 else (t.counter.toNat + n) % t.target.toNat)
      else (t.counter.toNat + n) % 0xFFFF := by
  have hzero : t.target = 0 ↔ t.target.toNat = 0 :=
    ⟨fun h => by rw [h]; rfl, fun h => BitVec.eq_of_toNat_eq h⟩
  have h3 : Timer.resetAtTarget t = t.mode.getLsbD 3 := rfl
  rw [wrapCounter, h3]
  simp only [hzero]
  split_ifs with hreset hpos
  · rfl
  · rw [BitVec.toNat_ofNat, Nat.mod_eq_of_lt]
    exact (Nat.mod_lt _ (Nat.pos_of_ne_zero hpos)).trans t.target.isLt
  · rw [BitVec.toNat_ofNat]
    omega

/-- Settles O46, from the remainder of `wrapCounter` and the bits of `noteEvents`. -/
theorem addTicksCounter : Obligations.AddTicksCounter := by
  intro t n
  refine ⟨wrapCounter_toNat t n, addTicks_target t n, addTicks_gate t n, ?_, ?_, ?_⟩
  · rw [addTicks_mode_of_ne (by decide), ← crossesTarget_iff]
    simp
  · rw [addTicks_mode_of_ne (by decide), ← reachesOverflow_iff]
    simp
  · intro k h10 h11 h12
    exact addTicks_mode_kept h10 h11 h12

/-- Settles O47: without an event nothing is raised, with one the request is that of `RaiseRequest`. -/
theorem addTicksRequest : Obligations.AddTicksRequest := by
  intro t n
  have hevent : ((t.target.toNat ≤ t.counter.toNat + n ∧ t.counter.toNat < t.target.toNat) ∨
      0xFFFF ≤ t.counter.toNat + n) ↔ (crossesTarget t n || reachesOverflow t n) = true := by
    rw [Bool.or_eq_true, crossesTarget_iff, reachesOverflow_iff]
  have hspent : (t.mode.getLsbD 6 = false ∧ t.irqDone = true) ↔
      (!t.mode.getLsbD 6 && t.irqDone) = true := by simp
  dsimp only
  rw [hevent, hspent]
  refine ⟨fun h => ?_, fun h h7 => ?_, fun h h7 => ?_, ?_⟩
  · rw [addTicks_of_no_event (Bool.eq_false_of_not_eq_true h)]
    exact ⟨rfl, rfl⟩
  · obtain ⟨hline, hfires⟩ := (addTicks_request h).1 h7
    exact ⟨hline, by rw [hfires, Bool.not_eq_true', Bool.not_eq_true]⟩
  · obtain ⟨hline, hfires⟩ := (addTicks_request h).2 h7
    exact ⟨hline, by rw [hfires, Bool.and_eq_true, Bool.not_eq_true', Bool.not_eq_true]⟩
  · rw [addTicks_irqDone, Bool.or_eq_true]

theorem timersAfter_get (s : State) (n : Nat) (i : TimerId) :
    Timers.get (timersAfter s n) i = advanced (Timers.get s.timers i) (ticksReceived s n i) := by
  cases i <;> rfl

/-- EXEC of a count below 2^31 is `Execute` (R240). -/
theorem exec_exec {n : Word} (hn : n.getLsbD 31 = false) (s : State) :
    exec (.exec n) s = .next (State.respond (executed s n.toNat) .ok 0 0) := by
  rw [← State.execute_eq]
  show execExec n s = _
  rw [execExec, hn]
  rfl

theorem wrapCounter_le (t : Timer) (n : Nat) : (wrapCounter t n).toNat ≤ 0xFFFE := by
  have htarget := t.target.isLt
  rw [wrapCounter_toNat]
  split
  · split
    · decide
    next hne =>
      have hpos : 0 < t.target.toNat := Nat.pos_of_ne_zero fun h => hne (BitVec.eq_of_toNat_eq h)
      have := Nat.mod_lt (t.counter.toNat + n) hpos
      omega
  · omega

/-- Under `reset_at_target` the counter ends below the target, or at 0. -/
theorem wrapCounter_below_target {t : Timer} (h3 : t.mode.getLsbD 3 = true) (n : Nat) :
    wrapCounter t n = 0 ∨ (wrapCounter t n).toNat < t.target.toNat := by
  have hval := wrapCounter_toNat t n
  rw [if_pos h3] at hval
  split at hval
  · exact .inl (BitVec.eq_of_toNat_eq hval)
  next hne =>
    rw [hval]
    exact .inr (Nat.mod_lt _ (Nat.pos_of_ne_zero fun h => hne (BitVec.eq_of_toNat_eq h)))

/-- Settles O48: a timer that received ticks went through one `AddTicks`. -/
theorem countersAfterExec : Obligations.CountersAfterExec := by
  intro n s hn
  refine ⟨_, exec_exec hn s, fun i k hk => ?_⟩
  have htimer : Timers.get (executed s n.toNat).timers i = (addTicks (Timers.get s.timers i) k).1 := by
    calc Timers.get (executed s n.toNat).timers i
        = advanced (Timers.get s.timers i) (ticksReceived s n.toNat i) := timersAfter_get s n.toNat i
      _ = (addTicks (Timers.get s.timers i) k).1 := by rw [hk]; rfl
  rw [State.respond_timers, htimer, addTicks_counter, addTicks_target]
  exact ⟨wrapCounter_le _ k, fun h3 => wrapCounter_below_target h3 k⟩

/-! ### Synchronizing -/

/-- What readying a port can do: nothing, the event alone, or the event and one `Execute` (R220, R250). -/
theorem State.portReady_cases (s : State) (p : TimerPort) (pend : Word) :
    (portSynchronizes p = false ∧ State.portReady s p pend = s) ∨
    (portSynchronizes p = true ∧ pend = 0 ∧
      State.portReady s p pend = State.emit s .synchronize) ∨
    (portSynchronizes p = true ∧ pend ≠ 0 ∧
      State.portReady s p pend = executed (State.emit s .synchronize) pend.toNat) := by
  rw [State.portReady_eq]
  cases portSynchronizes p
  · exact .inl ⟨rfl, rfl⟩
  · by_cases h : pend = 0
    · subst h
      exact .inr (.inl ⟨rfl, rfl, rfl⟩)
    · have hn : pend.toNat ≠ 0 := fun e => h (BitVec.eq_of_toNat_eq e)
      refine .inr (.inr ⟨rfl, h, ?_⟩)
      rw [if_pos rfl, synchronized, if_neg hn]
      rfl

/-- Readying a port reaches the timers, the carry, the downcount and the trace only. -/
theorem State.portReady_frame (s : State) (p : TimerPort) (pend : Word) :
    ∃ ts c d tr, State.portReady s p pend =
      { s with timers := ts, carry := c, downcount := d, trace := tr } := by
  rcases State.portReady_cases s p pend with ⟨_, h⟩ | ⟨_, _, h⟩ | ⟨_, _, h⟩
  · exact ⟨s.timers, s.carry, s.downcount, s.trace, h⟩
  · exact ⟨s.timers, s.carry, s.downcount, _, h⟩
  · exact ⟨_, _, _, _, h⟩

/-- Readying a port gives each timer some ticks or none. -/
theorem State.portReady_timer (s : State) (p : TimerPort) (pend : Word) (k : TimerId) :
    ∃ o, Timers.get (State.portReady s p pend).timers k = advanced (Timers.get s.timers k) o := by
  rcases State.portReady_cases s p pend with ⟨_, h⟩ | ⟨_, _, h⟩ | ⟨_, _, h⟩ <;> rw [h]
  · exact ⟨none, rfl⟩
  · exact ⟨none, rfl⟩
  · exact ⟨_, timersAfter_get _ _ k⟩

/-- Replacing timer `j` leaves timer `k` alone or makes it the new one. -/
theorem Timers.get_set (ts : Timers) (j k : TimerId) (t : Timer) :
    Timers.get (Timers.set ts j t) k = if k = j then t else Timers.get ts k := by
  by_cases h : k = j
  · subst h
    rw [if_pos rfl, Timers.get_set_same]
  · rw [if_neg h, Timers.get_set_other ts j k t h]

/-! ### The invariants of R50 -/

theorem Timer.legal_iff (t : Timer) :
    Timer.legal t = true ↔ ∀ k, 13 ≤ k → t.mode.getLsbD k = false := by
  rw [Timer.legal, decide_eq_true_eq, mode_lt_iff]

theorem Timer.legal_and {t u : Timer} {m : Half} (h : Timer.legal t = true)
    (hu : u.mode = t.mode &&& m) : Timer.legal u = true := by
  rw [Timer.legal_iff] at h ⊢
  intro k hk
  rw [hu, BitVec.getLsbD_and, h k hk, Bool.false_and]

theorem Timer.legal_addTicks {t : Timer} (h : Timer.legal t = true) (n : Nat) :
    Timer.legal (addTicks t n).1 = true := by
  rw [Timer.legal_iff] at h ⊢
  intro k hk
  rw [addTicks_mode_kept (by omega) (by omega) (by omega), h k hk]

theorem Timer.legal_advanced {t : Timer} (h : Timer.legal t = true) (o : Option Nat) :
    Timer.legal (advanced t o) = true := by
  cases o with
  | none => exact h
  | some n => exact Timer.legal_addTicks h n

theorem Timer.legal_setGate {t : Timer} (h : Timer.legal t = true) (level : Bool) :
    Timer.legal (setGate t level) = true := by
  obtain ⟨_, _, _, hmode | hmode⟩ := setGate_spec t level
  · rwa [Timer.legal, hmode]
  · exact Timer.legal_and h hmode

/-- A mode write stores bits 12:0 only (R225). -/
theorem storedMode_lt (v : Word) : (storedMode v).toNat < 0x2000 := by
  have hlow : (v.setWidth 16 &&& 0x1FFF : Half).toNat < 0x2000 := by
    rw [BitVec.toNat_and]
    exact Nat.lt_succ_of_le Nat.and_le_right
  unfold storedMode
  dsimp only
  split
  · rw [BitVec.toNat_or]
    exact Nat.or_lt_two_pow (n := 13) hlow (by decide)
  · exact hlow

theorem Timer.legal_timerAfterAccess {t : Timer} (h : Timer.legal t = true) (x : Access) (off : Nat)
    (p : TimerPort) : Timer.legal (timerAfterAccess x off p t) = true := by
  unfold timerAfterAccess
  split
  · cases p with
    | mode => exact Timer.legal_and h rfl
    | counter | target | none => exact h
  · cases p with
    | mode => exact decide_eq_true (storedMode_lt _)
    | counter | target | none => exact h

/-- The invariants in one list, the three timers as one. -/
theorem State.legal_iff (s : State) :
    State.legal s = true ↔
      Memory.ok s.ram 0x200000 = true ∧ Memory.ok s.scratch 0x400 = true ∧
      Memory.ok s.bios 0x80000 = true ∧ s.exp1Rom.length ≤ 0x800000 ∧
      (∀ i, Timer.legal (Timers.get s.timers i) = true) ∧ s.carry ≤ 7 ∧
      Platform.legal s.platform = true := by
  have htimers : (∀ i, Timer.legal (Timers.get s.timers i) = true) ↔
      Timer.legal s.timers.t0 = true ∧ Timer.legal s.timers.t1 = true ∧
        Timer.legal s.timers.t2 = true :=
    ⟨fun h => ⟨h .t0, h .t1, h .t2⟩, fun ⟨h0, h1, h2⟩ i => by cases i <;> assumption⟩
  rw [htimers]
  simp only [State.legal, Bool.and_eq_true, decide_eq_true_eq, and_assoc]

/-- Legality after a change of the timers and the carry alone. -/
theorem State.legal_of_timers {s u : State} (h : State.legal s = true)
    (hram : u.ram = s.ram) (hscratch : u.scratch = s.scratch) (hbios : u.bios = s.bios)
    (hrom : u.exp1Rom = s.exp1Rom) (hplatform : u.platform = s.platform)
    (htimers : (∀ i, Timer.legal (Timers.get s.timers i) = true) →
      ∀ i, Timer.legal (Timers.get u.timers i) = true)
    (hcarry : s.carry ≤ 7 → u.carry ≤ 7) : State.legal u = true := by
  rw [State.legal_iff] at h ⊢
  obtain ⟨h1, h2, h3, h4, h5, h6, h7⟩ := h
  rw [hram, hscratch, hbios, hrom, hplatform]
  exact ⟨h1, h2, h3, h4, htimers h5, hcarry h6, h7⟩

theorem carryAfter_le {s : State} (h : s.carry ≤ 7) (n : Nat) : carryAfter s n ≤ 7 := by
  unfold carryAfter
  split
  · omega
  · exact h

theorem legal_executed {s : State} (h : State.legal s = true) (n : Nat) :
    State.legal (executed s n) = true :=
  State.legal_of_timers h rfl rfl rfl rfl rfl
    (fun ht i => by
      rw [show (executed s n).timers = timersAfter s n from rfl, timersAfter_get]
      exact Timer.legal_advanced (ht i) _)
    fun hc => carryAfter_le hc n

theorem legal_portReady {s : State} (h : State.legal s = true) (p : TimerPort) (pend : Word) :
    State.legal (State.portReady s p pend) = true := by
  rcases State.portReady_cases s p pend with ⟨_, e⟩ | ⟨_, _, e⟩ | ⟨_, _, e⟩ <;> rw [e]
  · exact h
  · exact h
  · exact legal_executed (s := State.emit s .synchronize) h _

theorem legal_setTimer {s : State} (h : State.legal s = true) (j : TimerId) {t : Timer}
    (ht : Timer.legal (State.timer s j) = true → Timer.legal t = true) :
    State.legal (State.setTimer s j t) = true :=
  State.legal_of_timers h rfl rfl rfl rfl rfl
    (fun hs i => by
      rw [State.setTimer_timers, Timers.get_set]
      split
      · exact ht (hs j)
      · exact hs i)
    id

theorem ok_startupPatches {image : Memory} (h : Memory.ok image 0x80000 = true) :
    Memory.ok (startupPatches image) 0x80000 = true :=
  ok_storeWrite (ok_storeWrite h (by decide)) (by decide)

/-- The reset table is legal for legal parameters and an image of the right length. -/
theorem legal_afterReset {p : Platform} (hp : Platform.legal p = true)
    (hlen : p.biosImage.length = 0x80000) : State.legal (State.afterReset p) = true := by
  rw [State.legal_iff]
  have hparts := hp
  simp only [Platform.legal, Bool.and_eq_true, hlen] at hparts
  obtain ⟨⟨hram, hscratch⟩, himage⟩ := hparts
  exact ⟨hram, hscratch, ok_startupPatches himage, Nat.zero_le _, fun i => by cases i <;> rfl,
    Nat.zero_le _, hp⟩

theorem legal_restore {s : State} (h : State.legal s = true) {n : Snapshot}
    (hn : Snapshot.wellFormed n = true) : State.legal (State.restore s n) = true := by
  rw [State.legal_iff] at h ⊢
  obtain ⟨_, _, _, hrom, _, _, hplatform⟩ := h
  simp only [Snapshot.wellFormed, Image.exactly, Bool.and_eq_true, decide_eq_true_eq] at hn
  obtain ⟨⟨⟨⟨⟨⟨⟨_, hram⟩, _, hbios⟩, _, hscratch⟩, h0⟩, h1⟩, h2⟩, hcarry⟩ := hn
  refine ⟨hram, hscratch, hbios, hrom, fun i => ?_, hcarry, hplatform⟩
  cases i <;> exact decide_eq_true ‹_›

theorem Change.legal {s u : State} {i : Instr} (hc : Change s i u) (h : State.legal s = true) :
    State.legal u = true := by
  have hparts := (State.legal_iff s).mp h
  obtain ⟨hram, hscratch, hbios, hrom, htimers, hcarry, hplatform⟩ := hparts
  cases hc with
  | kept | memctrlStored | ramSizeStored | logged | saved => exact h
  | ramStored _ off v n hoff =>
    exact (State.legal_iff _).mpr
      ⟨ok_storeWrite hram hoff, hscratch, hbios, hrom, htimers, hcarry, hplatform⟩
  | scratchStored _ off v n hoff =>
    exact (State.legal_iff _).mpr
      ⟨hram, ok_storeWrite hscratch hoff, hbios, hrom, htimers, hcarry, hplatform⟩
  | timerAccess _ j p off x =>
    exact legal_setTimer (legal_portReady h p x.pend) j fun ht =>
      Timer.legal_timerAfterAccess ht x off p
  | executed n => exact legal_executed h _
  | gateSet k l j level => exact legal_setTimer h j fun ht => Timer.legal_setGate ht level
  | pulsed k n j => exact legal_setTimer h j fun ht => Timer.legal_addTicks ht _
  | patched a v m off hoff =>
    exact (State.legal_iff _).mpr
      ⟨hram, hscratch, ok_storeWrite hbios hoff, hrom, htimers, hcarry, hplatform⟩
  | romReplaced n rom hlen =>
    exact (State.legal_iff _).mpr ⟨hram, hscratch, hbios, hlen, htimers, hcarry, hplatform⟩
  | restored n hn => exact legal_restore h hn
  | reset hlen => exact legal_afterReset hplatform hlen

theorem exec_keeps_legal {s t : State} {i : Instr} (h : State.legal s = true)
    (he : exec i s = .next t) : State.legal t = true := by
  obtain ⟨u, _, _, _, rfl, hc⟩ := answered_of_exec he
  exact hc.legal h

/-- Settles O14: a step waits, or makes one of the changes, each of which keeps the invariants. -/
theorem stepKeepsLegal : Obligations.StepKeepsLegal := by
  intro s t h hstep
  cases hi : s.inbox with
  | nil =>
    rw [step, hi] at hstep
    cases hstep
    exact h
  | cons p rest =>
    rw [step_of_inbox_cons hi] at hstep
    exact exec_keeps_legal (s := State.take s p rest) h hstep

/-- Settles O13: the parameters at reset are legal and their image has the right length. -/
theorem resetStateLegal : Obligations.ResetStateLegal :=
  ⟨legal_afterReset (by decide) rfl, by decide⟩

/-! ### The access-time tables -/

theorem tablesCurrent_recalculate (s : State) : State.tablesCurrent (State.recalculate s) = true := by
  simp [State.tablesCurrent, State.recalculate, Platform.timing, MemCtrl.get]

theorem tablesCurrent_afterReset (p : Platform) : State.tablesCurrent (State.afterReset p) = true :=
  tablesCurrent_recalculate (State.afterReset p)

theorem tablesCurrent_portReady {s : State} (h : State.tablesCurrent s = true) (p : TimerPort)
    (pend : Word) : State.tablesCurrent (State.portReady s p pend) = true := by
  obtain ⟨ts, c, d, tr, e⟩ := State.portReady_frame s p pend
  rw [e]
  exact h

theorem Change.tablesCurrent {s u : State} {i : Instr} (hc : Change s i u) (hi : i ≠ .load)
    (h : State.tablesCurrent s = true) : State.tablesCurrent u = true := by
  cases hc with
  | memctrlStored => exact tablesCurrent_recalculate _
  | timerAccess _ j p off x => exact tablesCurrent_portReady h p x.pend
  | restored => exact absurd rfl hi
  | reset => exact tablesCurrent_afterReset s.platform
  | kept | ramStored | scratchStored | ramSizeStored | logged | executed | gateSet | pulsed | patched
    | romReplaced | saved => exact h

/-- Settles O15: MEMCTRL changes with a recomputation, the tables and the parameters by nothing else. -/
theorem tablesFollowMemctrl : Obligations.TablesFollowMemctrl := by
  intro i s t hi h he
  obtain ⟨u, _, _, _, rfl, hc⟩ := answered_of_exec he
  exact hc.tablesCurrent hi h

/-! ### Interrupt requests in the trace -/

theorem timerIndex_lt (i : TimerId) : timerIndex i < 3 := by
  cases i <;> decide

/-- The only events of a timer that receives ticks are its interrupt request. -/
theorem eq_of_mem_requested {p : Platform} {i : TimerId} {t : Timer} {o : Option Nat} {e : Event}
    (h : e ∈ requested p i t o) : e = .irq (p.irqTmr0 + timerIndex i) := by
  cases o with
  | none => cases h
  | some n =>
    unfold requested at h
    dsimp only at h
    split at h
    · exact List.mem_singleton.mp h
    · cases h

/-- An interrupt among the events of `Execute` is that of a timer. -/
theorem irq_of_mem_executeEvents {s : State} {n id : Nat} (h : .irq id ∈ executeEvents s n) :
    ∃ k, k < 3 ∧ id = s.platform.irqTmr0 + k := by
  have hreq : ∃ (i : TimerId) (t : Timer) (o : Option Nat), .irq id ∈ requested s.platform i t o := by
    simp only [executeEvents, List.mem_append, List.mem_singleton, reduceCtorEq, or_false] at h
    rcases h with (h | h) | h
    · exact ⟨_, _, _, h⟩
    · exact ⟨_, _, _, h⟩
    · exact ⟨_, _, _, h⟩
  obtain ⟨i, t, o, hmem⟩ := hreq
  exact ⟨timerIndex i, timerIndex_lt i, Event.irq.inj (eq_of_mem_requested hmem)⟩

/-- The trace grows from `s` to `u`, and any interrupt request added is a timer's, made under `C`. -/
def GrowsWith (C : Prop) (s u : State) : Prop :=
  ∃ es, u.trace = s.trace ++ es ∧
    ∀ id, .irq id ∈ es → (∃ k, k < 3 ∧ id = s.platform.irqTmr0 + k) ∧ C

theorem growsWith_of_trace_eq {C : Prop} {s u : State} (h : u.trace = s.trace) : GrowsWith C s u :=
  ⟨[], by rw [h, List.append_nil], fun _ hm => absurd hm List.not_mem_nil⟩

theorem growsWith_executed {C : Prop} (hC : C) (s : State) (n : Nat) :
    GrowsWith C s (executed s n) :=
  ⟨executeEvents s n, rfl, fun _ h => ⟨irq_of_mem_executeEvents h, hC⟩⟩

theorem growsWith_portReady {C : Prop} (s : State) {p : TimerPort} {pend : Word}
    (hC : portSynchronizes p = true → pend ≠ 0 → C) : GrowsWith C s (State.portReady s p pend) := by
  rcases State.portReady_cases s p pend with ⟨_, e⟩ | ⟨_, _, e⟩ | ⟨hp, hne, e⟩ <;> rw [e]
  · exact growsWith_of_trace_eq rfl
  · exact ⟨[.synchronize], rfl, by simp⟩
  · obtain ⟨es, htrace, hirq⟩ :=
      growsWith_executed (hC hp hne) (State.emit s .synchronize) pend.toNat
    refine ⟨.synchronize :: es, by rw [htrace]; simp, fun id hm => hirq id ?_⟩
    exact (List.mem_cons.mp hm).resolve_left nofun

/-- The operations interrupt requests come from (R301). -/
def InterruptSource (i : Instr) : Prop :=
  (∃ n, i = .exec n) ∨ (∃ k n, i = .xclk k n) ∨ (Instr.synchronizes i = true ∧ Instr.pend i ≠ 0)

theorem Change.growsWith {s u : State} {i : Instr} (hc : Change s i u) (hi : i ≠ .reset) :
    GrowsWith (InterruptSource i) s u := by
  cases hc with
  | logged _ es line answers reads hes => exact ⟨es, rfl, fun id hm => absurd hm (hes id)⟩
  | timerAccess _ j p off x hsync hpend =>
    exact growsWith_portReady s fun hp hne => .inr (.inr ⟨hsync hp, hpend ▸ hne⟩)
  | executed n => exact growsWith_executed (.inl ⟨n, rfl⟩) s _
  | pulsed k n j =>
    refine ⟨_, rfl, fun id hm => ⟨⟨timerIndex j, timerIndex_lt j, ?_⟩, .inr (.inl ⟨k, n, rfl⟩)⟩⟩
    exact Event.irq.inj (eq_of_mem_requested hm)
  | reset => exact absurd rfl hi
  | kept | ramStored | scratchStored | memctrlStored | ramSizeStored | gateSet | patched | romReplaced
    | saved | restored => exact growsWith_of_trace_eq rfl

/-- Settles O16: only the tick pump appends interrupt requests, and only these operations run it. -/
theorem interruptSources : Obligations.InterruptSources := by
  intro i s t hi he
  obtain ⟨u, _, _, _, rfl, hc⟩ := answered_of_exec he
  exact hc.growsWith hi

/-! ### Who may change what -/

section Ownership

variable {s u : State} {i : Instr}

theorem Change.bios_eq (hc : Change s i u) (hpatch : ∀ a v m, i ≠ .patch a v m) (hreset : i ≠ .reset)
    (hload : i ≠ .load) : u.bios = s.bios := by
  cases hc with
  | timerAccess _ j p off x =>
    obtain ⟨ts, c, d, tr, e⟩ := State.portReady_frame s p x.pend
    rw [e]
    rfl
  | patched a v m => exact absurd rfl (hpatch a v m)
  | restored => exact absurd rfl hload
  | reset => exact absurd rfl hreset
  | kept | ramStored | scratchStored | memctrlStored | ramSizeStored | logged | executed | gateSet
    | pulsed | romReplaced | saved => rfl

theorem Change.exp1Rom_eq (hc : Change s i u) (hexprom : ∀ n, i ≠ .exprom n) (hreset : i ≠ .reset) :
    u.exp1Rom = s.exp1Rom := by
  cases hc with
  | timerAccess _ j p off x =>
    obtain ⟨ts, c, d, tr, e⟩ := State.portReady_frame s p x.pend
    rw [e]
    rfl
  | romReplaced n => exact absurd rfl (hexprom n)
  | reset => exact absurd rfl hreset
  | kept | ramStored | scratchStored | memctrlStored | ramSizeStored | logged | executed | gateSet
    | pulsed | patched | saved | restored => rfl

theorem Change.platform_eq (hc : Change s i u) : u.platform = s.platform := by
  cases hc with
  | timerAccess _ j p off x =>
    obtain ⟨ts, c, d, tr, e⟩ := State.portReady_frame s p x.pend
    rw [e]
    rfl
  | kept | ramStored | scratchStored | memctrlStored | ramSizeStored | logged | executed | gateSet
    | pulsed | patched | romReplaced | saved | restored | reset => rfl

theorem advanced_gate (t : Timer) (o : Option Nat) : (advanced t o).gate = t.gate := by
  cases o with
  | none => rfl
  | some n => exact addTicks_gate t n

theorem timerAfterAccess_gate (x : Access) (off : Nat) (p : TimerPort) (t : Timer) :
    (timerAfterAccess x off p t).gate = t.gate := by
  unfold timerAfterAccess
  split <;> cases p <;> rfl

/-- Replacing a timer by one with its gate level moves no gate. -/
theorem get_set_gate {ts : Timers} {j : TimerId} {t : Timer} (h : t.gate = (Timers.get ts j).gate)
    (k : TimerId) : (Timers.get (Timers.set ts j t) k).gate = (Timers.get ts k).gate := by
  rw [Timers.get_set]
  split
  next e => rw [e, h]
  · rfl

theorem portReady_gate (s : State) (p : TimerPort) (pend : Word) (k : TimerId) :
    (Timers.get (State.portReady s p pend).timers k).gate = (Timers.get s.timers k).gate := by
  obtain ⟨o, e⟩ := State.portReady_timer s p pend k
  rw [e, advanced_gate]

theorem Change.gate_eq (hc : Change s i u) (hgate : ∀ k l, i ≠ .gate k l) (hreset : i ≠ .reset)
    (hload : i ≠ .load) (k : TimerId) :
    (Timers.get u.timers k).gate = (Timers.get s.timers k).gate := by
  cases hc with
  | timerAccess _ j p off x =>
    exact (get_set_gate (timerAfterAccess_gate x off p _) k).trans (portReady_gate s p x.pend k)
  | executed n =>
    calc (Timers.get (timersAfter s n.toNat) k).gate
        = (advanced (Timers.get s.timers k) _).gate := by rw [timersAfter_get]
      _ = (Timers.get s.timers k).gate := advanced_gate _ _
  | pulsed _ n j => exact get_set_gate (addTicks_gate _ _) k
  | gateSet a l => exact absurd rfl (hgate a l)
  | restored => exact absurd rfl hload
  | reset => exact absurd rfl hreset
  | kept | ramStored | scratchStored | memctrlStored | ramSizeStored | logged | patched | romReplaced
    | saved => rfl

theorem Change.carry_downcount_eq (hc : Change s i u) (hexec : ∀ n, i ≠ .exec n) (hreset : i ≠ .reset)
    (hload : i ≠ .load) (hquiet : Instr.synchronizes i = false ∨ Instr.pend i = 0) :
    u.carry = s.carry ∧ u.downcount = s.downcount := by
  cases hc with
  | timerAccess _ j p off x hsync hpend =>
    rw [State.setTimer_carry, State.setTimer_downcount]
    rcases State.portReady_cases s p x.pend with ⟨_, e⟩ | ⟨_, _, e⟩ | ⟨hp, hne, e⟩
    · rw [e]
      exact ⟨rfl, rfl⟩
    · rw [e]
      exact ⟨rfl, rfl⟩
    · rcases hquiet with hq | hq
      · exact absurd (hsync hp) (by simp [hq])
      · exact absurd (hpend ▸ hq) hne
  | executed n => exact absurd rfl (hexec n)
  | restored => exact absurd rfl hload
  | reset => exact absurd rfl hreset
  | kept | ramStored | scratchStored | memctrlStored | ramSizeStored | logged | gateSet | pulsed
    | patched | romReplaced | saved => exact ⟨rfl, rfl⟩

end Ownership

/-- Settles O17, component by component over the changes an operation can make. -/
theorem ownershipOfState : Obligations.OwnershipOfState := by
  intro i s t he
  obtain ⟨u, _, _, _, rfl, hc⟩ := answered_of_exec he
  exact ⟨hc.bios_eq, hc.exp1Rom_eq, hc.gate_eq, hc.carry_downcount_eq, hc.platform_eq⟩

/-! ### One-shot timers -/

/-- A one-shot timer went from `t` to `t'` making `c` requests: it stays one-shot, makes no request once
the latch is set, and else at most one, which sets the latch (R35, R246). -/
def OneShotStep (t t' : Timer) (c : Nat) : Prop :=
  t.mode.getLsbD 6 = false →
    t'.mode.getLsbD 6 = false ∧ (t.irqDone = true → t'.irqDone = true ∧ c = 0) ∧
      (c = 0 ∨ c = 1 ∧ t'.irqDone = true)

theorem OneShotStep.of_eq {t t' : Timer} (hmode : t'.mode.getLsbD 6 = t.mode.getLsbD 6)
    (hdone : t'.irqDone = t.irqDone) : OneShotStep t t' 0 :=
  fun h => ⟨hmode.trans h, fun hd => ⟨hdone.trans hd, rfl⟩, .inl rfl⟩

theorem OneShotStep.trans {t t' t'' : Timer} {c c' : Nat} (h : OneShotStep t t' c)
    (h' : OneShotStep t' t'' c') : OneShotStep t t'' (c + c') := by
  intro h6
  obtain ⟨h6', hdone, hcount⟩ := h h6
  obtain ⟨h6'', hdone', hcount'⟩ := h' h6'
  refine ⟨h6'', fun hd => ?_, ?_⟩
  · obtain ⟨hd', rfl⟩ := hdone hd
    obtain ⟨hd'', rfl⟩ := hdone' hd'
    exact ⟨hd'', rfl⟩
  · rcases hcount with rfl | ⟨rfl, hd'⟩
    · rwa [Nat.zero_add]
    · obtain ⟨hd'', rfl⟩ := hdone' hd'
      exact .inr ⟨rfl, hd''⟩

/-- A timer whose latch is set and that is one-shot does not fire. -/
theorem addTicks_spent {t : Timer} (h6 : t.mode.getLsbD 6 = false) (hd : t.irqDone = true) (n : Nat) :
    (addTicks t n).2 = false := by
  cases h : crossesTarget t n || reachesOverflow t n
  · rw [addTicks_of_no_event h]
  · obtain ⟨hpulse, htoggle⟩ := addTicks_request h
    cases h7 : t.mode.getLsbD 7
    · rw [(hpulse h7).2, h6, hd]
      rfl
    · rw [(htoggle h7).2, h6, hd, Bool.not_false, Bool.and_self, Bool.not_true, Bool.and_false]

theorem irqCount_requested (p : Platform) (i : TimerId) (t : Timer) (n : Nat) :
    irqCount (p.irqTmr0 + timerIndex i) (requested p i t (some n)) =
      if (addTicks t n).2 then 1 else 0 := by
  unfold requested
  dsimp only
  split <;> simp [irqCount]

theorem oneShotStep_advanced (p : Platform) (i : TimerId) (t : Timer) (o : Option Nat) :
    OneShotStep t (advanced t o) (irqCount (p.irqTmr0 + timerIndex i) (requested p i t o)) := by
  cases o with
  | none => exact .of_eq rfl rfl
  | some n =>
    intro h6
    rw [irqCount_requested]
    refine ⟨(addTicks_mode_kept (by decide) (by decide) (by decide)).trans h6, fun hd => ?_, ?_⟩
    · rw [addTicks_spent h6 hd]
      exact ⟨by rw [advanced, addTicks_irqDone, hd]; rfl, rfl⟩
    · cases hf : (addTicks t n).2
      · exact .inl rfl
      · exact .inr ⟨rfl, by rw [advanced, addTicks_irqDone, hf, Bool.or_true]⟩

theorem timerIndex_inj {i j : TimerId} (h : timerIndex i = timerIndex j) : i = j := by
  cases i <;> cases j <;> simp [timerIndex] at h ⊢

/-- A timer's events hold no request of another timer. -/
theorem irqCount_requested_other (p : Platform) {i k : TimerId} (h : k ≠ i) (t : Timer)
    (o : Option Nat) : irqCount (p.irqTmr0 + timerIndex k) (requested p i t o) = 0 := by
  refine List.count_eq_zero.mpr fun hm => h (timerIndex_inj ?_)
  have := Event.irq.inj (eq_of_mem_requested hm)
  omega

/-- `Execute` requests the interrupt of a timer as often as that timer fires. -/
theorem irqCount_executeEvents (s : State) (n : Nat) (k : TimerId) :
    irqCount (s.platform.irqTmr0 + timerIndex k) (executeEvents s n) =
      irqCount (s.platform.irqTmr0 + timerIndex k)
        (requested s.platform k (Timers.get s.timers k) (ticksReceived s n k)) := by
  have happend : ∀ id (a b : List Event), irqCount id (a ++ b) = irqCount id a + irqCount id b :=
    fun _ _ _ => List.count_append
  have hdowncount : ∀ id d, irqCount id [Event.setDowncount d] = 0 :=
    fun _ _ => List.count_eq_zero.mpr (by simp)
  rw [executeEvents, happend, happend, happend, hdowncount]
  cases k with
  | t0 =>
    rw [irqCount_requested_other s.platform (i := .t1) (by decide),
      irqCount_requested_other s.platform (i := .t2) (by decide)]
    rfl
  | t1 =>
    rw [irqCount_requested_other s.platform (i := .t0) (by decide),
      irqCount_requested_other s.platform (i := .t2) (by decide), Nat.zero_add]
    rfl
  | t2 =>
    rw [irqCount_requested_other s.platform (i := .t0) (by decide),
      irqCount_requested_other s.platform (i := .t1) (by decide), Nat.zero_add]
    rfl

/-- From `s` to `t` the parameters stay, the trace grows, and timer `k` moves as a one-shot timer does
with the requests the trace gained. -/
def OneShotRun (k : TimerId) (s t : State) : Prop :=
  t.platform = s.platform ∧ ∃ es, t.trace = s.trace ++ es ∧
    OneShotStep (Timers.get s.timers k) (Timers.get t.timers k)
      (irqCount (s.platform.irqTmr0 + timerIndex k) es)

section OneShot

variable {k : TimerId} {s t u : State}

/-- No request of the timer, its `irq_repeat` and its latch kept. -/
theorem OneShotRun.of_quiet {es : List Event} (hplatform : t.platform = s.platform)
    (htrace : t.trace = s.trace ++ es) (hes : ∀ id, .irq id ∉ es)
    (hmode : (Timers.get t.timers k).mode.getLsbD 6 = (Timers.get s.timers k).mode.getLsbD 6)
    (hdone : (Timers.get t.timers k).irqDone = (Timers.get s.timers k).irqDone) :
    OneShotRun k s t := by
  refine ⟨hplatform, es, htrace, ?_⟩
  rw [irqCount, List.count_eq_zero.mpr (hes _)]
  exact .of_eq hmode hdone

theorem OneShotRun.of_frame (hplatform : t.platform = s.platform) (htrace : t.trace = s.trace)
    (htimers : t.timers = s.timers) : OneShotRun k s t :=
  .of_quiet (es := []) hplatform (by rw [htrace, List.append_nil]) (fun _ => List.not_mem_nil)
    (by rw [htimers]) (by rw [htimers])

theorem OneShotRun.trans (h : OneShotRun k s t) (h' : OneShotRun k t u) : OneShotRun k s u := by
  obtain ⟨hp, es, htrace, hstep⟩ := h
  obtain ⟨hp', es', htrace', hstep'⟩ := h'
  rw [hp] at hstep'
  refine ⟨hp'.trans hp, es ++ es', by rw [htrace', htrace, List.append_assoc], ?_⟩
  rw [irqCount, List.count_append]
  exact hstep.trans hstep'

theorem oneShotRun_executed (s : State) (n : Nat) : OneShotRun k s (executed s n) := by
  refine ⟨rfl, executeEvents s n, rfl, ?_⟩
  rw [irqCount_executeEvents, show (executed s n).timers = timersAfter s n from rfl, timersAfter_get]
  exact oneShotStep_advanced _ _ _ _

theorem oneShotRun_portReady (s : State) (p : TimerPort) (pend : Word) :
    OneShotRun k s (State.portReady s p pend) := by
  have hemit : OneShotRun k s (State.emit s .synchronize) :=
    .of_quiet (es := [.synchronize]) rfl rfl (by simp) rfl rfl
  rcases State.portReady_cases s p pend with ⟨_, e⟩ | ⟨_, _, e⟩ | ⟨_, _, e⟩ <;> rw [e]
  · exact .of_frame rfl rfl rfl
  · exact hemit
  · exact hemit.trans (oneShotRun_executed _ _)

/-- A timer replaced by one with its `irq_repeat` and latch. -/
theorem oneShotRun_setTimer {j : TimerId} {t' : Timer}
    (h : k = j → t'.mode.getLsbD 6 = (State.timer s j).mode.getLsbD 6 ∧
      t'.irqDone = (State.timer s j).irqDone) : OneShotRun k s (State.setTimer s j t') := by
  have hget : Timers.get (State.setTimer s j t').timers k =
      if k = j then t' else Timers.get s.timers k := Timers.get_set s.timers j k t'
  have htrace : (State.setTimer s j t').trace = s.trace ++ [] := (List.append_nil _).symm
  refine .of_quiet rfl htrace (fun _ => List.not_mem_nil) ?_ ?_ <;> rw [hget] <;> split
  next e => rw [(h e).1, e]; rfl
  · rfl
  next e => rw [(h e).2, e]; rfl
  · rfl

theorem oneShotRun_pulsed (s : State) (j : TimerId) (n : Nat) :
    OneShotRun k s
      { s with
        timers := Timers.set s.timers j (Machine.addTicks (Timers.get s.timers j) n).1
        trace := s.trace ++ requested s.platform j (Timers.get s.timers j) (some n) } := by
  refine ⟨rfl, _, rfl, ?_⟩
  by_cases h : k = j
  · subst h
    rw [Timers.get_set_same]
    exact oneShotStep_advanced s.platform k _ (some n)
  · rw [Timers.get_set_other _ _ _ _ h, irqCount_requested_other _ h]
    exact .of_eq rfl rfl

/-- Only a write of the mode port reaches `irq_repeat` or the latch (R224 to R228). -/
theorem timerAfterAccess_oneShot {x : Access} {p : TimerPort} (h : ¬ (x.dir = .write ∧ p = .mode))
    (off : Nat) (t : Timer) :
    (timerAfterAccess x off p t).mode.getLsbD 6 = t.mode.getLsbD 6 ∧
      (timerAfterAccess x off p t).irqDone = t.irqDone := by
  unfold timerAfterAccess
  split
  · cases p with
    | mode =>
      refine ⟨?_, rfl⟩
      show (t.mode &&& ~~~0x1800).getLsbD 6 = _
      rw [BitVec.getLsbD_and, show (~~~0x1800 : Half).getLsbD 6 = true from rfl, Bool.and_true]
    | counter | target | none => exact ⟨rfl, rfl⟩
  next hd =>
    cases p with
    | mode => exact absurd ⟨hd, rfl⟩ h
    | counter | target | none => exact ⟨rfl, rfl⟩

theorem setGate_oneShot (t : Timer) (level : Bool) :
    (setGate t level).mode.getLsbD 6 = t.mode.getLsbD 6 ∧
      (setGate t level).irqDone = t.irqDone := by
  obtain ⟨_, _, hdone, hmode | hmode⟩ := setGate_spec t level
  · exact ⟨by rw [hmode], hdone⟩
  · refine ⟨?_, hdone⟩
    rw [hmode, BitVec.getLsbD_and, show (~~~1 : Half).getLsbD 6 = true from rfl, Bool.and_true]

theorem Change.oneShotRun {i : Instr} (hc : Change s i u) (hwrite : Instr.writesMode k i = false)
    (hreset : i ≠ .reset) (hload : i ≠ .load) : OneShotRun k s u := by
  cases hc with
  | logged _ es line answers reads hes => exact .of_quiet rfl rfl hes rfl rfl
  | timerAccess _ j p off x hsync hpend hmode =>
    refine (oneShotRun_portReady s p x.pend).trans (oneShotRun_setTimer fun e => ?_)
    refine timerAfterAccess_oneShot (fun ⟨hd, hp⟩ => ?_) off _
    rw [e, hmode hd hp] at hwrite
    cases hwrite
  | executed n => exact oneShotRun_executed s _
  | gateSet a l j level => exact oneShotRun_setTimer fun _ => setGate_oneShot _ _
  | pulsed a n j => exact oneShotRun_pulsed s j _
  | restored => exact absurd rfl hload
  | reset => exact absurd rfl hreset
  | kept | ramStored | scratchStored | memctrlStored | ramSizeStored | patched | romReplaced
    | saved => exact .of_frame rfl rfl rfl

theorem exec_oneShotRun {i : Instr} (he : exec i s = .next t) (hwrite : Instr.writesMode k i = false)
    (hreset : i ≠ .reset) (hload : i ≠ .load) : OneShotRun k s t := by
  obtain ⟨u, _, _, _, rfl, hc⟩ := answered_of_exec he
  exact hc.oneShotRun hwrite hreset hload

/-- A sequence completes, and is one run. -/
theorem execAll_oneShotRun (k : TimerId) (js : List Instr) (s : State)
    (h : ∀ j ∈ js, Instr.writesMode k j = false ∧ j ≠ .reset ∧ j ≠ .load) :
    ∃ t, execAll js s = .next t ∧ OneShotRun k s t := by
  induction js generalizing s with
  | nil => exact ⟨s, rfl, .of_frame rfl rfl rfl⟩
  | cons j js ih =>
    obtain ⟨hwrite, hreset, hload⟩ := h j List.mem_cons_self
    obtain ⟨u, he, _⟩ := exec_answers j s
    obtain ⟨t, hall, hrun⟩ := ih u fun j' hj' => h j' (List.mem_cons_of_mem j hj')
    refine ⟨t, ?_, (exec_oneShotRun he hwrite hreset hload).trans hrun⟩
    rw [execAll, he]
    exact hall

/-- The requests a run adds to the trace. -/
theorem irqCount_of_trace {id : Nat} {es : List Event} (h : t.trace = s.trace ++ es) :
    irqCount id t.trace = irqCount id s.trace + irqCount id es := by
  rw [irqCount, h, List.count_append]
  rfl

end OneShot

/-- Settles O53: one operation is a one-shot run, and runs compose. -/
theorem oneShotRaisesOnce : Obligations.OneShotRaisesOnce := by
  refine ⟨fun j s t i he hwrite hreset hload h6 => ?_, fun js s i hjs h6 => ?_⟩
  · obtain ⟨_, es, htrace, hstep⟩ := exec_oneShotRun he hwrite hreset hload
    obtain ⟨h6', hdone, hcount⟩ := hstep h6
    dsimp only
    rw [irqCount_of_trace htrace]
    refine ⟨h6', fun hd => ?_, ?_⟩
    · obtain ⟨hd', hzero⟩ := hdone hd
      exact ⟨hd', by rw [hzero, Nat.add_zero]⟩
    · exact hcount.imp (fun hzero => by rw [hzero, Nat.add_zero])
        fun ⟨hone, hd'⟩ => ⟨by rw [hone], hd'⟩
  · obtain ⟨t, hall, _, es, htrace, hstep⟩ := execAll_oneShotRun i js s hjs
    obtain ⟨_, hdone, hcount⟩ := hstep h6
    refine ⟨t, hall, ?_⟩
    rw [irqCount_of_trace htrace]
    split
    next hd => rw [(hdone hd).2]
    · rcases hcount with h | ⟨h, _⟩
      · omega
      · omega

/-! ### A step with nothing presented, and an address in no row -/

theorem decodeRegion_unmapped {a : Word} (h : Unmapped (a.toNat % 0x20000000)) (x : Access) :
    decodeRegion a x = .error .noRegionRow := by
  have hrow : ∀ {lo m : Nat}, inRow a lo m = true → a.toNat % 0x20000000 / 2 ^ lo = m / 2 ^ lo :=
    fun e => by rw [← physAddr_eq_mod]; exact physAddr_of_inRow e
  unfold Unmapped at h
  unfold decodeRegion
  iterate 19 rw [if_neg (fun e => by have := hrow e; omega)]

theorem decodePhys_unmapped {pa : Nat} (hpa : pa < 0x20000000) (h : Unmapped pa) :
    decodePhys pa = none := by
  unfold Unmapped at h
  unfold decodePhys
  iterate 16 rw [if_neg (by omega)]

/-- The packet of a bus request's operands is the request's packet. -/
theorem rowlessPacket_addressForm (form : Form) (a : Word) (x : Access) :
    rowlessPacket (addressForm form a x) =
      match x.dir with
      | .read => readPacket x.size a x.pend
      | .write => writePacket x.size a x.value x.pend := by
  rw [rowlessPacket, addressForm_op, addressForm_address, addressForm_value, addressForm_pend]
  cases x.dir <;> cases x.size <;> rfl

theorem exec_readPacket (z : Size) (a pend : Word) (s : State) :
    exec (readPacket z a pend) s = .next (request a ⟨.read, z, 0, pend⟩ s) := by
  cases z <;> rfl

theorem exec_writePacket (z : Size) (a b pend : Word) (s : State) :
    exec (writePacket z a b pend) s = .next (request a ⟨.write, z, b, pend⟩ s) := by
  cases z <;> rfl

/-- The invalid access of the model is the one the statements write out. -/
theorem State.invalid_eq (s : State) (x : Access) :
    State.invalid s x = invalidFor x.dir x.size s := by
  obtain ⟨dir, size, value, pend⟩ := x
  cases dir <;> cases size <;> rfl

theorem pendOk_eq_true {pend : Word} (h : pend.getLsbD 31 = false) : pendOk pend = true := by
  rw [pendOk, h]
  rfl

/-- An aligned request to an address of no region is an invalid access (R155). -/
theorem request_unmapped {a : Word} {x : Access} (s : State) (hpend : x.pend.getLsbD 31 = false)
    (h : Unmapped (a.toNat % 0x20000000)) (halign : a.toNat % nbytes x.size = 0) :
    request a x s = invalidFor x.dir x.size s := by
  have hphys : decodePhys (physAddr a) = none := by
    rw [physAddr_eq_mod]
    exact decodePhys_unmapped (Nat.mod_lt _ (by decide)) h
  have hal : aligned x.size (physAddr a) = true := by
    rw [aligned, beq_iff_eq, physAddr_eq_mod]
    cases hz : x.size <;> rw [hz, nbytes] at halign <;> rw [nbytes] <;> omega
  rw [request, hphys]
  exact (guardRequest_serves (pendOk_eq_true hpend) (.inr hal)).trans (State.invalid_eq s x)

theorem operationOf_of_decode_error {k : Carrier} {e : DecodeError} (h : decode k = .error e) :
    operationOf k = rowlessPacket k := by
  rw [operationOf, h]

theorem step_of_inbox_nil {s : State} (h : s.inbox = []) : step s = .next s := by
  rw [step, h]

theorem step_of_decode_error {s : State} {p : Presented} {rest : List Presented} {e : DecodeError}
    (hinbox : s.inbox = p :: rest) (h : decode p.carrier = .error e) :
    step s = exec (rowlessPacket p.carrier) (State.take s p rest) := by
  rw [step_of_inbox_cons hinbox, operationOf_of_decode_error h]

/-- Settles O10: an address form no row matches is the packet of its request, and `exec_answers`. -/
theorem stepWaitsOrAnswers : Obligations.StepWaitsOrAnswers := by
  refine ⟨fun s h => step_of_inbox_nil h, fun s p rest e hinbox h => step_of_decode_error hinbox h,
    fun a x q rest s hinbox hpend hun halign => ?_, fun s => ?_⟩
  · have hdecode : decode (addressForm .region a x) = .error .noRegionRow := by
      rw [decode_regionForm, decodeRegion_unmapped hun]
    rw [step_of_decode_error hinbox hdecode, rowlessPacket_addressForm, State.take_eq]
    obtain ⟨dir, size, value, pend⟩ := x
    cases dir with
    | read =>
      rw [exec_readPacket, request_unmapped (x := ⟨.read, size, 0, pend⟩) _ hpend hun halign]
    | write =>
      rw [exec_writePacket, request_unmapped (x := ⟨.write, size, value, pend⟩) _ hpend hun halign]
  · cases hinbox : s.inbox with
    | nil => exact ⟨s, step_of_inbox_nil hinbox⟩
    | cons p rest =>
      obtain ⟨t, h, _⟩ := exec_answers (operationOf p.carrier) (State.take s p rest)
      exact ⟨t, (step_of_inbox_cons hinbox).trans h⟩

/-! ### The TTY line -/

/-- A byte of a word written as a byte is the character sent (R96, R150). -/
theorem wdata_char (c : Byte) (pend : Word) :
    (Access.wdata ⟨.write, .byte, c.setWidth 32, pend⟩).setWidth 8 = c := by
  apply BitVec.eq_of_toNat_eq
  simp [Access.wdata, truncTo]

/-- A byte write to the TTY port sends its character. -/
theorem exec_wb_tty (c : Byte) (s : State) :
    exec (.wb 0x1F802023 (c.setWidth 32) 0) s =
      .next (State.respond (ttyTyped s c) .ok 0 (Config.exp2Ticks .byte)) := by
  have hphys : decodePhys (physAddr 0x1F802023) = some (.exp2, 0x23) := by decide
  have hpend : pendOk 0 = true := by decide
  have halign : aligned .byte (physAddr 0x1F802023) = true := by decide
  have hserve : request 0x1F802023 ⟨.write, .byte, c.setWidth 32, 0⟩ s =
      serveExp2 0x23 ⟨.write, .byte, c.setWidth 32, 0⟩ s := by
    simp only [request, hphys]
    exact guardRequest_serves hpend (.inr halign)
  have htty : serveExp2 0x23 ⟨.write, .byte, c.setWidth 32, 0⟩ s =
      State.respond (ttyTyped s ((Access.wdata ⟨.write, .byte, c.setWidth 32, 0⟩).setWidth 8))
        .ok 0 (Config.exp2Ticks .byte) := rfl
  rw [wdata_char] at htty
  show execWb 0x1F802023 (c.setWidth 32) 0 s = _
  rw [execWb, hserve, htty]

/-- Settles O24, by induction on the line: each character is appended, the line feed sends the buffer. -/
theorem ttyLineAccumulates : Obligations.TtyLineAccumulates := by
  intro line s h
  induction line generalizing s with
  | nil =>
    show execAll [.wb 0x1F802023 ((0x0A : Byte).setWidth 32) 0] s = _
    rw [execAll, exec_wb_tty]
    show Host.Outcome.next _ = _
    rw [List.append_nil]
    rfl
  | cons c line ih =>
    obtain ⟨hcr, hlf⟩ := h c List.mem_cons_self
    have htyped : ttyTyped s c = { s with ttyLine := s.ttyLine ++ [c] } := by
      rw [ttyTyped, if_neg hcr, if_neg hlf]
    rw [List.cons_append, List.map_cons, execAll, exec_wb_tty]
    refine (ih (State.respond (ttyTyped s c) .ok 0 _)
      fun c' hc' => h c' (List.mem_cons_of_mem c hc')).trans ?_
    rw [htyped]
    simp [State.respond]

/-! ### MEMCTRL -/

theorem memctrlWrite_get (s : State) (r q : McReg) (v : Word) :
    MemCtrl.get (State.memctrlWrite s r v).memctrl q =
      if q = r then maskedWrite (MemCtrl.get s.memctrl r) v (MemCtrl.get s.platform.wmask r)
      else MemCtrl.get s.memctrl q := by
  unfold State.memctrlWrite
  dsimp only
  split
  · rw [State.recalculate_memctrl]
    split
    next e => rw [e, MemCtrl.get_set_same]
    next e => rw [MemCtrl.get_set_other _ _ _ _ e]
  next hsame =>
    split
    next e => rw [e, not_not.mp hsame]
    · rfl

/-- At lane 0 a word goes through the lane rule unchanged (R190, R191). -/
theorem laneRead_word_zero (w : Word) : laneRead .word 0 w = w := by
  simp [laneRead, truncTo]

theorem laneWrite_word_zero (d : Dir) (v pend : Word) : laneWrite ⟨d, .word, v, pend⟩ 0 = v := by
  simp [laneWrite, Access.wdata, truncTo]

theorem exec_memctrlPort_write (r : McReg) (seg : BitVec 3) (v : Word) {pend : Word}
    (hpend : pend.getLsbD 31 = false) (s : State) :
    exec (memctrlPort r seg 0 ⟨.write, .word, v, pend⟩) s =
      .next (State.respond (State.memctrlWrite s r v) .ok 0 2) := by
  rw [exec_memctrlPort,
    guardRequest_serves (x := ⟨.write, .word, v, pend⟩) (pendOk_eq_true hpend) (.inl rfl)]
  show Host.Outcome.next (State.respond (State.memctrlWrite s r (laneWrite ⟨.write, .word, v, pend⟩ 0))
    .ok 0 2) = _
  rw [laneWrite_word_zero]

theorem exec_memctrlPort_read (r : McReg) (seg : BitVec 3) (v : Word) {pend : Word}
    (hpend : pend.getLsbD 31 = false) (s : State) :
    exec (memctrlPort r seg 0 ⟨.read, .word, v, pend⟩) s =
      .next (State.respond s .ok (MemCtrl.get s.memctrl r) 2) := by
  rw [exec_memctrlPort,
    guardRequest_serves (x := ⟨.read, .word, v, pend⟩) (pendOk_eq_true hpend) (.inl rfl)]
  show Host.Outcome.next (State.respond s .ok (laneRead .word 0 (MemCtrl.get s.memctrl r)) 2) = _
  rw [laneRead_word_zero]

/-- Settles O28: the write goes through `memctrlWrite`, the read gives the register. -/
theorem memctrlWriteThenRead : Obligations.MemctrlWriteThenRead := by
  intro r q seg seg' v w pend pend' s hpend hpend'
  refine ⟨_, exec_memctrlPort_write r seg v hpend s, ?_⟩
  rw [exec_memctrlPort_read q seg' w hpend', State.respond_memctrl, memctrlWrite_get]
  rfl

/-! ### Reset -/

/-- A patch under the full mask stores its value (R274, R322). -/
theorem storedInto_patchWord_full {m : Memory} (h : Memory.wf m = true) (off : Nat) (value : Word) :
    StoredInto m (patchWord m off value 0xFFFFFFFF) off value 4 := by
  have hfull : (littleEndian (Memory.read m) off .word &&& ~~~0xFFFFFFFF) ||| value = value := by
    rw [show (~~~0xFFFFFFFF : Word) = 0#32 from rfl, BitVec.and_zero, BitVec.zero_or]
  have hstored := storedInto_patchWord h off value 0xFFFFFFFF
  rwa [hfull] at hstored

/-- A store elsewhere leaves a word as it was. -/
theorem littleEndian_of_storedInto_other {before after : Memory} {off n a : Nat} {v : Word}
    (h : StoredInto before after off v n) (ha : a + 4 ≤ off ∨ off + n ≤ a) :
    littleEndian (Memory.read after) a .word = littleEndian (Memory.read before) a .word := by
  obtain ⟨_, _, hother⟩ := h
  simp only [littleEndian]
  rw [hother a (by omega), hother (a + 1) (by omega), hother (a + 2) (by omega),
    hother (a + 3) (by omega)]

/-- The two start-up patches of a canonical image (R322). -/
theorem startupPatches_spec {image : Memory} (h : Memory.wf image = true) :
    Memory.wf (startupPatches image) = true ∧
      littleEndian (Memory.read (startupPatches image)) 0x6F0C .word = 0x24010001 ∧
      littleEndian (Memory.read (startupPatches image)) 0x6F14 .word = 0xAF81A9C0 ∧
      ∀ a, a < 0x6F0C ∨ (0x6F10 ≤ a ∧ a < 0x6F14) ∨ 0x6F18 ≤ a →
        Memory.read (startupPatches image) a = Memory.read image a := by
  have hfirst := storedInto_patchWord_full h 0x6F0C 0x24010001
  have hsecond := storedInto_patchWord_full hfirst.1 0x6F14 0xAF81A9C0
  refine ⟨hsecond.1, ?_, littleEndian_of_storedInto hsecond, fun a ha => ?_⟩
  · exact (littleEndian_of_storedInto_other hsecond (by omega)).trans
      (littleEndian_of_storedInto hfirst)
  · obtain ⟨_, _, hother₁⟩ := hfirst
    obtain ⟨_, _, hother₂⟩ := hsecond
    exact (hother₂ a (by omega)).trans (hother₁ a (by omega))

/-- Settles O54: the table is `State.afterReset`, its BIOS the image with both patches. -/
theorem resetTable : Obligations.ResetTable := by
  intro s
  have hexec : exec .reset s = execReset s := rfl
  dsimp only
  rw [hexec, execReset]
  refine ⟨fun hlen => ⟨startupPatches s.platform.biosImage.cells, ?_, startupPatches_spec⟩,
    fun hlen => ?_⟩
  · rw [if_pos hlen]
    rfl
  · rw [if_neg hlen]
    rfl

end Sys2Proof.Machine

namespace Sys2Proof.Machine

/-! ### A bus request by its address

`request` goes through the decoder of R63; the region rows of R100 go straight to their region. Both end
in `guardRequest` of `serveRegion`, at the same region and offset. -/

theorem aligned_iff (z : Size) (pa : Nat) : aligned z pa = true ↔ pa % nbytes z = 0 := by
  rw [aligned, beq_iff_eq]

theorem aligned_eq_false_iff (z : Size) (pa : Nat) : aligned z pa = false ↔ pa % nbytes z ≠ 0 := by
  rw [← Bool.not_eq_true, aligned_iff]

/-- The segment bits have no part in alignment (R62, R69). -/
theorem physAddr_mod_nbytes (a : Word) (z : Size) : physAddr a % nbytes z = a.toNat % nbytes z := by
  rw [physAddr_eq_mod]
  cases z <;> simp only [nbytes] <;> omega

theorem physAddr_lt (a : Word) : physAddr a < 0x20000000 := by
  rw [physAddr_eq_mod]
  exact Nat.mod_lt _ (by decide)

/-- A request to an address in a region is guarded and served at its offset there. -/
theorem request_of_decodePhys {a : Word} {r : Region} {off : Nat}
    (h : decodePhys (physAddr a) = some (r, off)) (x : Access) (s : State) :
    request a x s = guardRequest (adapted r) off x (serveRegion r off x) s := by
  obtain ⟨hmod, _⟩ := decodePhys_offset (physAddr_lt a) h
  simp only [request, h]
  exact guardRequest_congr hmod

/-- A request reads its address through the segment fold only (R62). -/
theorem request_congr {a a' : Word} (h : physAddr a = physAddr a') (x : Access) (s : State) :
    request a x s = request a' x s := by
  rw [request, request, h]

theorem execPatch_congr {a a' : Word} (h : physAddr a = physAddr a') (v m : Word) (s : State) :
    execPatch a v m s = execPatch a' v m s := by
  rw [execPatch, execPatch, h]

/-- Settles O7: the requests and the patch read the address through `physAddr` only. -/
theorem segmentBitsNeverMatter : Obligations.SegmentBitsNeverMatter := by
  intro a a' b c size s h
  have hphys : physAddr a = physAddr a' := by rw [physAddr_eq_mod, physAddr_eq_mod, h]
  refine ⟨?_, ?_, ?_⟩
  · rw [exec_readPacket, exec_readPacket, request_congr hphys]
  · rw [exec_writePacket, exec_writePacket, request_congr hphys]
  · exact execPatch_congr hphys b c s

/-- Settles O35: both packets are requests, and `request_unmapped` answers them. -/
theorem unmappedPackets : Obligations.UnmappedPackets := by
  intro a b pend size s hpend hun halign
  refine ⟨?_, ?_⟩
  · rw [exec_readPacket, request_unmapped (x := ⟨.read, size, 0, pend⟩) s hpend hun halign]
  · rw [exec_writePacket, request_unmapped (x := ⟨.write, size, b, pend⟩) s hpend hun halign]

/-- Only the addresses of the five adapted regions decode to one of them (R63, R71). -/
theorem adapted_of_decodePhys {pa off : Nat} {r : Region} (hpa : pa < 0x20000000)
    (h : decodePhys pa = some (r, off)) (hr : adapted r = true) : Adapted pa := by
  unfold Adapted
  rcases decodePhys_cases hpa h with h | h | h | h | h | h | h | h | h | h | h | h | h | h | h | h | h
  case inr.inr.inr.inr.inr.inr.inr.inr.inr.inr.inr.inr.inr.inr.inr.inr => cases h.2
  case inl =>
    obtain ⟨_, e⟩ := h
    cases e
    cases hr
  all_goals
    obtain ⟨hlo, hhi, e⟩ := h
    cases e
    simp only [adapted, Bool.false_eq_true] at hr <;> omega

/-- A misaligned request outside the adapted regions is refused (R70, R302). -/
theorem request_misaligned {a : Word} {x : Access} (s : State) (hpend : x.pend.getLsbD 31 = false)
    (h : ¬ Adapted (a.toNat % 0x20000000)) (halign : a.toNat % nbytes x.size ≠ 0) :
    request a x s = refusedWith .misaligned s := by
  rw [← physAddr_eq_mod] at h
  have hal : aligned x.size (physAddr a) = false := by
    rwa [aligned_eq_false_iff, physAddr_mod_nbytes]
  rw [request]
  split
  next r off hphys =>
    have hr : adapted r = false := by
      rw [← Bool.not_eq_true]
      exact fun hr => h (adapted_of_decodePhys (physAddr_lt a) hphys hr)
    rw [hr]
    exact guardRequest_misaligned (pendOk_eq_true hpend) hal
  · exact guardRequest_misaligned (pendOk_eq_true hpend) hal

/-- Settles O36: both packets are requests, and `request_misaligned` refuses them. -/
theorem misalignedPackets : Obligations.MisalignedPackets := by
  intro a b pend size s hpend hout halign
  refine ⟨?_, ?_⟩
  · rw [exec_readPacket, request_misaligned (x := ⟨.read, size, 0, pend⟩) s hpend hout halign]
  · rw [exec_writePacket, request_misaligned (x := ⟨.write, size, b, pend⟩) s hpend hout halign]

/-! ### The region rows are the regions -/

theorem inRow_iff (a : Word) (lo m : Nat) :
    inRow a lo m = true ↔ physAddr a / 2 ^ lo = m / 2 ^ lo := by
  rw [inRow, beq_iff_eq, physAddr_eq_mod]

/-- An address of a row is the row's match and the row's free bits. -/
theorem physAddr_eq_add_of_inRow {a : Word} {lo m : Nat} (h : inRow a lo m = true) (hlo : lo ≤ 29)
    (hm : m % 2 ^ lo = 0) : physAddr a = m + (a.setWidth lo).toNat := by
  have hdiv := physAddr_of_inRow h
  have hpa := Nat.div_add_mod (physAddr a) (2 ^ lo)
  have hrow := Nat.div_add_mod m (2 ^ lo)
  rw [hdiv] at hpa
  rw [setWidth_toNat_physAddr a lo hlo]
  omega

/-- The decoder's answer with the offset written as the row writes it. -/
theorem decodePhys_at {pa off off' : Nat} {r : Region} (h : decodePhys pa = some (r, off))
    (heq : off = off') : decodePhys pa = some (r, off') := by
  rw [h, heq]

/-- A region row serves the region and the offset that the address decoder finds (R63, R100). -/
theorem decodeRegion_serves {a : Word} {x : Access} {i : Instr} (h : decodeRegion a x = .ok i) :
    ∃ r off, decodePhys (physAddr a) = some (r, off) ∧
      ∀ s, exec i s = .next (guardRequest (adapted r) off x (serveRegion r off x) s) := by
  rcases decodeRegion_cases h with ⟨hrow, rfl⟩ | ⟨hrow, rfl⟩ | ⟨hrow, rfl⟩ | ⟨hrow, rfl⟩ |
    ⟨hrow, rfl⟩ | ⟨hrow, rfl⟩ | ⟨hrow, rfl⟩ | ⟨hrow, rfl⟩ | ⟨hrow, rfl⟩ | ⟨hrow, rfl⟩ | ⟨hrow, rfl⟩ |
    ⟨hrow, rfl⟩ | ⟨hrow, rfl⟩ | ⟨hrow, rfl⟩ | ⟨hrow, rfl⟩ | ⟨hrow, rfl⟩ | ⟨hrow, rfl⟩ | ⟨hrow, rfl⟩ |
    ⟨hrow, rfl⟩
  all_goals have hpa := physAddr_eq_add_of_inRow hrow (by decide) (by decide)
  · exact ⟨.ram, (a.setWidth 21).toNat, decodePhys_at (decodePhys_ram (by omega))
      (setWidth_toNat_physAddr a 21 (by decide)).symm, fun _ => rfl⟩
  · exact ⟨.exp1, (a.setWidth 23).toNat,
      decodePhys_at (decodePhys_exp1 (by omega)) (by omega), fun _ => rfl⟩
  · exact ⟨.scratchpad, (a.setWidth 10).toNat,
      decodePhys_at (decodePhys_scratchpad (by omega)) (by omega), fun _ => rfl⟩
  · exact ⟨.memctrl, (a.setWidth 5).toNat,
      decodePhys_at (decodePhys_memctrl (by omega)) (by omega), fun _ => rfl⟩
  · exact ⟨.memctrl, 0x20 + (a.setWidth 2).toNat,
      decodePhys_at (decodePhys_memctrl (by omega)) (by omega), fun _ => rfl⟩
  · exact ⟨.pad, (a.setWidth 4).toNat,
      decodePhys_at (decodePhys_pad (by omega)) (by omega), fun _ => rfl⟩
  · exact ⟨.sio, (a.setWidth 4).toNat,
      decodePhys_at (decodePhys_sio (by omega)) (by omega), fun _ => rfl⟩
  · exact ⟨.memctrl2, (a.setWidth 2).toNat,
      decodePhys_at (decodePhys_memctrl2 (by omega)) (by omega), fun _ => rfl⟩
  · exact ⟨.intc, (a.setWidth 3).toNat,
      decodePhys_at (decodePhys_intc (by omega)) (by omega), fun _ => rfl⟩
  · exact ⟨.dma, (a.setWidth 7).toNat,
      decodePhys_at (decodePhys_dma (by omega)) (by omega), fun _ => rfl⟩
  · exact ⟨.timers, (a.setWidth 5).toNat,
      decodePhys_at (decodePhys_timers (by omega)) (by omega), fun _ => rfl⟩
  · exact ⟨.timers, 0x20 + (a.setWidth 4).toNat,
      decodePhys_at (decodePhys_timers (by omega)) (by omega), fun _ => rfl⟩
  · exact ⟨.cdrom, (a.setWidth 2).toNat,
      decodePhys_at (decodePhys_cdrom (by omega)) (by omega), fun _ => rfl⟩
  · exact ⟨.gpu, (a.setWidth 3).toNat,
      decodePhys_at (decodePhys_gpu (by omega)) (by omega), fun _ => rfl⟩
  · exact ⟨.mdec, (a.setWidth 3).toNat,
      decodePhys_at (decodePhys_mdec (by omega)) (by omega), fun _ => rfl⟩
  · exact ⟨.spu, (a.setWidth 9).toNat,
      decodePhys_at (decodePhys_spu (by omega)) (by omega), fun _ => rfl⟩
  · exact ⟨.spu, 0x200 + (a.setWidth 7).toNat,
      decodePhys_at (decodePhys_spu (by omega)) (by omega), fun _ => rfl⟩
  · exact ⟨.exp2, (a.setWidth 13).toNat,
      decodePhys_at (decodePhys_exp2 (by omega)) (by omega), fun _ => rfl⟩
  · exact ⟨.bios, (a.setWidth 19).toNat,
      decodePhys_at (decodePhys_bios (by omega)) (by omega), fun _ => rfl⟩

/-- An address that no region row matches lies in a hole (R65). -/
theorem unmapped_of_decodeRegion_error {a : Word} {x : Access} {e : DecodeError}
    (h : decodeRegion a x = .error e) : Unmapped (physAddr a) := by
  have hrow : ∀ {lo m : Nat}, ¬ inRow a lo m = true → physAddr a / 2 ^ lo ≠ m / 2 ^ lo :=
    fun e hm => e ((inRow_iff _ _ _).mpr hm)
  unfold decodeRegion at h
  iterate 19
    obtain ⟨hno, h⟩ := (of_ite_eq h).resolve_left (fun e => by cases e.2)
    replace hno := hrow hno
  have := physAddr_lt a
  unfold Unmapped
  omega

/-- Settles O4: each decoder's failing branches bound the address to the holes of R65. -/
theorem unmappedAddresses : Obligations.UnmappedAddresses := by
  intro a x
  have hpa := physAddr_lt a
  rw [← physAddr_eq_mod]
  refine ⟨⟨fun h => ?_, decodePhys_unmapped hpa⟩, unmapped_of_decodeRegion_error,
    fun h => ?_⟩
  · simpa using decodePhys_cases hpa h
  · exact decodeRegion_unmapped (by rwa [← physAddr_eq_mod]) x

/-- The value operand of a read is not looked at (R91). -/
theorem serveRegion_read_value (r : Region) (off : Nat) (z : Size) (v w pend : Word) (s : State) :
    serveRegion r off ⟨.read, z, v, pend⟩ s = serveRegion r off ⟨.read, z, w, pend⟩ s := by
  cases r <;> cases z <;> rfl

/-- The packet of an address in a region does what the row of that region and offset does. -/
theorem exec_busPacket {a : Word} {r : Region} {off : Nat}
    (h : decodePhys (physAddr a) = some (r, off)) (x : Access) (s : State) :
    exec (decodePacket (busOp x.dir x.size) a x.value x.pend) s =
      .next (guardRequest (adapted r) off x (serveRegion r off x) s) := by
  obtain ⟨dir, size, value, pend⟩ := x
  cases dir with
  | read =>
    have hpacket : decodePacket (busOp .read size) a value pend = readPacket size a pend := by
      cases size <;> rfl
    have hserve : serveRegion r off ⟨.read, size, 0, pend⟩ =
        serveRegion r off ⟨.read, size, value, pend⟩ :=
      funext fun u => serveRegion_read_value r off size 0 value pend u
    simp only [hpacket]
    rw [exec_readPacket, request_of_decodePhys h, hserve]
    rfl
  | write =>
    have hpacket : decodePacket (busOp .write size) a value pend = writePacket size a value pend := by
      cases size <;> rfl
    simp only [hpacket]
    rw [exec_writePacket, request_of_decodePhys h]

/-- Settles O5: row and packet serve the same region at the same offset. -/
theorem packetServesItsRow : Obligations.PacketServesItsRow := by
  intro a x i s h
  obtain ⟨r, off, hphys, hrow⟩ := decodeRegion_serves h
  rw [exec_busPacket hphys, hrow]

/-! ### Aligned and misaligned requests to a region without the lane rule -/

theorem guardRequest_of_aligned {off : Nat} {x : Access} (hpend : x.pend.getLsbD 31 = false)
    (h : off % nbytes x.size = 0) (f : State → State) (s : State) :
    guardRequest false off x f s = f s :=
  guardRequest_serves (pendOk_eq_true hpend) (.inr ((aligned_iff _ _).mpr h))

theorem guardRequest_of_misaligned {off : Nat} {x : Access} (hpend : x.pend.getLsbD 31 = false)
    (h : off % nbytes x.size ≠ 0) (f : State → State) (s : State) :
    guardRequest false off x f s = refusedWith .misaligned s :=
  guardRequest_misaligned (pendOk_eq_true hpend) ((aligned_eq_false_iff _ _).mpr h)

theorem ones_eq_onesOf (z : Size) : ones z = onesOf z := by
  cases z <;> rfl

/-! ### RAM -/

/-- The bits a request of a size carries (R13). -/
theorem truncTo_getLsbD (z : Size) (v : Word) (i : Nat) :
    (truncTo z v).getLsbD i = (decide (i < 8 * nbytes z) && v.getLsbD i) := by
  have hword : (decide (i < 32) && v.getLsbD i) = v.getLsbD i := by
    by_cases hi : i < 32
    · rw [decide_eq_true hi, Bool.true_and]
    · rw [BitVec.getLsbD_of_ge v i (Nat.le_of_not_lt hi), Bool.and_false]
  cases z with
  | byte =>
    rw [truncTo, BitVec.getLsbD_setWidth, BitVec.getLsbD_setWidth, Bool.and_left_comm, hword]
    rfl
  | half =>
    rw [truncTo, BitVec.getLsbD_setWidth, BitVec.getLsbD_setWidth, Bool.and_left_comm, hword]
    rfl
  | word => exact hword.symm

/-- The bytes a request writes are those of its operand (R68, R96). -/
theorem byteOf_truncTo (z : Size) (v : Word) {k : Nat} (hk : k < nbytes z) :
    byteOf (truncTo z v) k = byteOf v k := by
  apply BitVec.eq_of_getLsbD_eq
  intro i hi
  have hbit : 8 * k + i < 8 * nbytes z := by omega
  simp only [byteOf, BitVec.getLsbD_extractLsb', truncTo_getLsbD, decide_eq_true hbit, Bool.true_and]

/-- What the write of a request leaves in a store. -/
theorem storedInto_wdata {m : Memory} (h : Memory.wf m = true) (off : Nat) (x : Access) :
    StoredInto m (storeWrite m off (Access.wdata x).toNat (nbytes x.size)) off x.value
      (nbytes x.size) := by
  obtain ⟨hwf, hbytes, hother⟩ := storedInto_storeWrite h off (Access.wdata x) (nbytes x.size)
  exact ⟨hwf, fun k hk => (hbytes k hk).trans (byteOf_truncTo x.size x.value hk), hother⟩

theorem serveRam_read (off : Nat) (z : Size) (v pend : Word) (s : State) :
    serveRam off ⟨.read, z, v, pend⟩ s =
      { s with response := ⟨.ok, littleEndian (Memory.read s.ram) off z, 4⟩ } := by
  rw [← loadWord_eq_littleEndian]
  rfl

theorem serveRam_write {s : State} (h : Memory.wf s.ram = true) (off : Nat) (z : Size)
    (v pend : Word) :
    ∃ ram', serveRam off ⟨.write, z, v, pend⟩ s =
        { s with ram := ram', response := ⟨.ok, 0, 4⟩ } ∧
      StoredInto s.ram ram' off v (nbytes z) :=
  ⟨_, rfl, storedInto_wdata h off ⟨.write, z, v, pend⟩⟩

section RamPackets

variable {a pend : Word} {z : Size}

/-- An aligned request to a RAM address, any mirror and segment, is served at its cell (R62, R64). -/
theorem request_ram {x : Access} (hpend : x.pend.getLsbD 31 = false)
    (ha : a.toNat % 0x20000000 < 0x800000) (hal : a.toNat % nbytes x.size = 0) (s : State) :
    request a x s = serveRam (a.toNat % 0x200000) x s := by
  have hphys : decodePhys (physAddr a) = some (.ram, a.toNat % 0x200000) := by
    rw [physAddr_eq_mod]
    exact decodePhys_at (decodePhys_ram ha) (by omega)
  have hcell : a.toNat % 0x200000 % nbytes x.size = 0 := by
    cases hz : x.size <;> simp only [hz, nbytes] at hal ⊢ <;> omega
  rw [request_of_decodePhys hphys]
  exact guardRequest_of_aligned hpend hcell _ s

theorem exec_readPacket_ram (hpend : pend.getLsbD 31 = false)
    (ha : a.toNat % 0x20000000 < 0x800000) (hal : a.toNat % nbytes z = 0) (s : State) :
    exec (readPacket z a pend) s =
      .next { s with response :=
        ⟨.ok, littleEndian (Memory.read s.ram) (a.toNat % 0x200000) z, 4⟩ } := by
  rw [exec_readPacket, request_ram (x := ⟨.read, z, 0, pend⟩) hpend ha hal, serveRam_read]

theorem exec_writePacket_ram {s : State} (hwf : Memory.wf s.ram = true)
    (hpend : pend.getLsbD 31 = false) (ha : a.toNat % 0x20000000 < 0x800000)
    (hal : a.toNat % nbytes z = 0) (b : Word) :
    ∃ ram', exec (writePacket z a b pend) s =
        .next { s with ram := ram', response := ⟨.ok, 0, 4⟩ } ∧
      StoredInto s.ram ram' (a.toNat % 0x200000) b (nbytes z) := by
  obtain ⟨ram', hserve, hstored⟩ := serveRam_write hwf (a.toNat % 0x200000) z b pend
  refine ⟨ram', ?_, hstored⟩
  rw [exec_writePacket, request_ram (x := ⟨.write, z, b, pend⟩) hpend ha hal, hserve]

end RamPackets

/-- Settles O19: aligned packets are served at their RAM cell, misaligned ones are refused. -/
theorem ramPackets : Obligations.RamPackets := by
  intro a b pend size s hpend ha
  have hout : ¬ Adapted (a.toNat % 0x20000000) := by
    unfold Adapted
    omega
  exact ⟨fun hal => ⟨exec_readPacket_ram hpend ha hal s,
      fun hwf => exec_writePacket_ram hwf hpend ha hal b⟩,
    misalignedPackets a b pend size s hpend hout⟩

/-- The two upper bytes of a stored word (R67, R68). -/
theorem littleEndian_half_of_storedInto {before after : Memory} {off : Nat} {v : Word}
    (h : StoredInto before after off v 4) :
    littleEndian (Memory.read after) (off + 2) .half = v >>> 16 := by
  obtain ⟨_, hbytes, _⟩ := h
  rw [littleEndian, Nat.add_assoc, hbytes 2 (by decide), hbytes 3 (by decide)]
  apply BitVec.eq_of_toNat_eq
  have := v.isLt
  simp only [BitVec.toNat_setWidth, append_byte_toNat, byteOf, BitVec.extractLsb'_toNat,
    BitVec.toNat_ushiftRight, Nat.shiftRight_eq_div_pow]
  omega

/-- Settles O8: the write stores the word at the cell, and every address of the cell reads from it. -/
theorem ramRoundTripThroughMirrors : Obligations.RamRoundTripThroughMirrors := by
  intro a a' v pend pend' s hwf hpend hpend' ha ha' hcell hal
  obtain ⟨ram', hwrite, hstored⟩ := exec_writePacket_ram (z := .word) hwf hpend ha hal v
  rw [hcell] at hstored
  have hoff : ∀ k, k < 4 → (a' + BitVec.ofNat 32 k).toNat = a'.toNat + k := fun k hk => by
    rw [BitVec.toNat_add, BitVec.toNat_ofNat]
    omega
  refine ⟨_, hwrite, ?_, fun k hk => ?_, ?_⟩
  · refine (exec_readPacket_ram (z := .word) hpend' ha' ?_ _).trans ?_
    · show a'.toNat % 4 = 0
      omega
    · rw [littleEndian_of_storedInto hstored]
  · have hk' := hoff k hk
    obtain ⟨_, hbytes, _⟩ := hstored
    refine (exec_readPacket_ram (z := .byte) hpend' (by omega) (Nat.mod_one _) _).trans ?_
    rw [littleEndian, ← hbytes k hk, hk',
      show (a'.toNat + k) % 0x200000 = a'.toNat % 0x200000 + k by omega]
  · have h2 : (a' + 2).toNat = a'.toNat + 2 := hoff 2 (by decide)
    refine (exec_readPacket_ram (a := a' + 2) (z := .half) hpend' ?_ ?_ _).trans ?_
    · omega
    · show (a' + 2).toNat % 2 = 0
      omega
    · rw [← littleEndian_half_of_storedInto hstored,
        show (a' + 2).toNat % 0x200000 = a'.toNat % 0x200000 + 2 by omega]

/-! ### EXP1 -/

/-- The data of an EXP1 read, with the bytes of the ROM in little-endian order (R140 to R142). -/
theorem exp1Data_eq (rom : List Byte) (off : Nat) (z : Size) :
    exp1Data rom off z =
      if rom.length = 0 then onesOf z
      else if off = 0x20018 then 1
      else if off + nbytes z > rom.length then 0
      else littleEndian (fun k => rom.getD k 0) off z := by
  rw [exp1Data, ones_eq_onesOf, loadWord_eq_littleEndian]
  rfl

theorem serveExp1_read (off : Nat) (z : Size) (v pend : Word) (s : State) :
    serveExp1 off ⟨.read, z, v, pend⟩ s =
      { s with response := ⟨.ok, exp1Data s.exp1Rom off z, Config.exp1Ticks z⟩ } := rfl

theorem serveExp1_write (off : Nat) (z : Size) (v pend : Word) (s : State) :
    serveExp1 off ⟨.write, z, v, pend⟩ s = { s with response := ⟨.ok, 0, Config.exp1Ticks z⟩ } := rfl

theorem exec_regionExp1 (seg : BitVec 3) (low : BitVec 23) (x : Access) (s : State) :
    exec (.regionExp1 seg low x) s =
      .next (guardRequest false low.toNat x (serveExp1 low.toNat x) s) := rfl

/-- The sentinel's row serves EXP1 at the sentinel's offset (R141). -/
theorem exec_portExp1Ar (seg : BitVec 3) (x : Access) (s : State) :
    exec (.portExp1Ar seg x) s = .next (guardRequest false 0x20018 x (serveExp1 0x20018 x) s) := rfl

theorem sentinel_aligned (z : Size) : 0x20018 % nbytes z = 0 := by
  cases z <;> rfl

/-- Settles O22: both rows serve EXP1; a misaligned region request is refused. -/
theorem exp1Row : Obligations.Exp1Row := by
  intro seg low size value pend s hpend
  refine ⟨fun hal => ⟨?_, ?_⟩, fun hmis dir => ?_, ?_, ?_⟩
  · rw [exec_regionExp1, guardRequest_of_aligned (x := ⟨.read, size, value, pend⟩) hpend hal,
      serveExp1_read, exp1Data_eq]
  · rw [exec_regionExp1, guardRequest_of_aligned (x := ⟨.write, size, value, pend⟩) hpend hal,
      serveExp1_write]
  · rw [exec_regionExp1, guardRequest_of_misaligned (x := ⟨dir, size, value, pend⟩) hpend hmis]
  · rw [exec_portExp1Ar, guardRequest_of_aligned (x := ⟨.read, size, value, pend⟩) hpend
      (sentinel_aligned size), serveExp1_read, exp1Data_eq, if_pos rfl]
  · rw [exec_portExp1Ar, guardRequest_of_aligned (x := ⟨.write, size, value, pend⟩) hpend
      (sentinel_aligned size), serveExp1_write]

/-! ### EXP2 -/

theorem serveExp2_read (off : Nat) (z : Size) (v pend : Word) (s : State) :
    serveExp2 off ⟨.read, z, v, pend⟩ s =
      { s with response :=
        ⟨.ok, (if off = 0x21 then 0x0C else onesOf z), Config.exp2Ticks z⟩ } := by
  rw [← ones_eq_onesOf]
  rfl

/-- Every request carries the low byte of its operand. -/
theorem setWidth_truncTo (z : Size) (v : Word) {w : Nat} (hw : w ≤ 8) :
    (truncTo z v).setWidth w = v.setWidth w := by
  apply BitVec.eq_of_getLsbD_eq
  intro i hi
  have hbit : i < 8 * nbytes z := by cases z <;> simp only [nbytes] <;> omega
  simp only [BitVec.getLsbD_setWidth, truncTo_getLsbD, decide_eq_true hbit, Bool.true_and]

/-- What a write to EXP2 does: the low byte is typed, the low nibble posted, the rest dropped (R150 to
R152). -/
theorem serveExp2_write (off : Nat) (z : Size) (v pend : Word) (s : State) :
    serveExp2 off ⟨.write, z, v, pend⟩ s =
      { (if off = 0x23 then ttyTyped s (v.setWidth 8)
          else if off = 0x41 then { s with trace := s.trace ++ [.postStatus (v.setWidth 4)] }
          else s) with response := ⟨.ok, 0, Config.exp2Ticks z⟩ } := by
  rw [← setWidth_truncTo z v (w := 8) (by decide), ← setWidth_truncTo z v (w := 4) (by decide)]
  rfl

theorem exec_regionExp2 (seg : BitVec 3) (low : BitVec 13) (x : Access) (s : State) :
    exec (.regionExp2 seg low x) s =
      .next (guardRequest false low.toNat x (serveExp2 low.toNat x) s) := rfl

/-- The row of the TTY status port serves the offset of its port. -/
theorem exec_portExp2TtyStatus (seg : BitVec 3) (x : Access) (s : State) :
    exec (.portExp2TtyStatus seg x) s =
      .next (guardRequest false 0x21 x (serveExp2 0x21 x) s) := by
  obtain ⟨dir, size, value, pend⟩ := x
  cases dir <;> rfl

/-- Wider requests do not reach a port at an odd address (R70, R146). -/
theorem odd_misaligned {z : Size} (hz : z ≠ .byte) {off : Nat} (hodd : off % 2 = 1) :
    off % nbytes z ≠ 0 := by
  cases z with
  | byte => exact absurd rfl hz
  | half => simp only [nbytes]; omega
  | word => simp only [nbytes]; omega

section Exp2Rows

variable {row : Access → Instr} {off : Nat} {size : Size} {value pend : Word} {s : State}
  (hrow : ∀ x, exec (row x) s = .next (guardRequest false off x (serveExp2 off x) s))
  (hpend : pend.getLsbD 31 = false)

include hrow hpend

/-- A row that serves EXP2 at an offset, asked to read, write, or misaligned. -/
theorem exec_exp2_read (hal : off % nbytes size = 0) :
    exec (row ⟨.read, size, value, pend⟩) s =
      .next { s with response :=
        ⟨.ok, (if off = 0x21 then 0x0C else onesOf size), Config.exp2Ticks size⟩ } := by
  rw [hrow, guardRequest_of_aligned (x := ⟨.read, size, value, pend⟩) hpend hal, serveExp2_read]

theorem exec_exp2_write (hal : off % nbytes size = 0) :
    exec (row ⟨.write, size, value, pend⟩) s =
      .next { (if off = 0x23 then ttyTyped s (value.setWidth 8)
          else if off = 0x41 then { s with trace := s.trace ++ [.postStatus (value.setWidth 4)] }
          else s) with response := ⟨.ok, 0, Config.exp2Ticks size⟩ } := by
  rw [hrow, guardRequest_of_aligned (x := ⟨.write, size, value, pend⟩) hpend hal, serveExp2_write]

theorem exec_exp2_misaligned (hmis : off % nbytes size ≠ 0) (dir : Dir) :
    exec (row ⟨dir, size, value, pend⟩) s = .next (refusedWith .misaligned s) := by
  rw [hrow, guardRequest_of_misaligned (x := ⟨dir, size, value, pend⟩) hpend hmis]

end Exp2Rows

/-- Settles O23: the region row and the three port rows serve EXP2, each at its offset. -/
theorem exp2Row : Obligations.Exp2Row := by
  intro seg low size value pend s hpend
  have hregion := fun x => exec_regionExp2 seg low x s
  have hstatus := fun x => exec_portExp2TtyStatus seg x s
  have hdata := fun x => exec_portExp2TtyData seg x s
  have hpost := fun x => exec_portExp2Post seg x s
  refine ⟨fun hal => ⟨exec_exp2_read hregion hpend hal, exec_exp2_write hregion hpend hal⟩,
    fun hmis dir => exec_exp2_misaligned hregion hpend hmis dir, ?_, fun hz dir => ?_⟩
  · rintro rfl
    exact ⟨exec_exp2_read hstatus hpend rfl, exec_exp2_write hstatus hpend rfl,
      exec_exp2_read hdata hpend rfl, exec_exp2_write hdata hpend rfl,
      exec_exp2_read hpost hpend rfl, exec_exp2_write hpost hpend rfl⟩
  · exact ⟨exec_exp2_misaligned hstatus hpend (odd_misaligned hz rfl) dir,
      exec_exp2_misaligned hdata hpend (odd_misaligned hz rfl) dir,
      exec_exp2_misaligned hpost hpend (odd_misaligned hz rfl) dir⟩

end Sys2Proof.Machine

namespace Sys2Proof

/-! ### The address rows as tables

`decodeRegion` and `decodePort` try their rows in order. As a table a row is its free bits, its match and
the operation it holds, and since no two rows of a table share an address, the order does not matter: an
address built from a row is read as that row (R102). -/

/-- A row of R100 or R101: `lo` free low bits above `base`, and the operation of the segment bits, the free
bits and the request. -/
structure AddrRow where
  lo : Nat
  base : Nat
  holds : BitVec 3 → BitVec lo → Access → Instr

/-- The row of RAM, whose free bits are mirror and offset (R64). -/
def ramRow : AddrRow :=
  ⟨23, 0x00000000, fun seg low => .regionRam seg (low.extractLsb' 21 2) (low.setWidth 21)⟩

/-- The rows of R100, in the order `decodeRegion` tries them. -/
def regionRows : List AddrRow :=
  [ramRow, ⟨23, 0x1F000000, .regionExp1⟩, ⟨10, 0x1F800000, .regionScratchpad⟩,
    ⟨5, 0x1F801000, .regionMemctrlA⟩, ⟨2, 0x1F801020, .regionMemctrlB⟩, ⟨4, 0x1F801040, .regionPad⟩,
    ⟨4, 0x1F801050, .regionSio⟩, ⟨2, 0x1F801060, .regionMemctrl2⟩, ⟨3, 0x1F801070, .regionIntc⟩,
    ⟨7, 0x1F801080, .regionDma⟩, ⟨5, 0x1F801100, .regionTimersA⟩, ⟨4, 0x1F801120, .regionTimersB⟩,
    ⟨2, 0x1F801800, .regionCdrom⟩, ⟨3, 0x1F801810, .regionGpu⟩, ⟨3, 0x1F801820, .regionMdec⟩,
    ⟨9, 0x1F801C00, .regionSpuA⟩, ⟨7, 0x1F801E00, .regionSpuB⟩, ⟨13, 0x1F802000, .regionExp2⟩,
    ⟨19, 0x1FC00000, .regionBios⟩]

/-- The row of a port that is a single byte. -/
def bytePort (base : Nat) (holds : BitVec 3 → Access → Instr) : AddrRow :=
  ⟨0, base, fun seg _ => holds seg⟩

/-- The rows of R101, in the order `decodePort` tries them. -/
def portRows : List AddrRow :=
  [⟨2, 0x1F801000, .portMemctrl0⟩, ⟨2, 0x1F801004, .portMemctrl1⟩, ⟨2, 0x1F801008, .portMemctrl2⟩,
    ⟨2, 0x1F80100C, .portMemctrl3⟩, ⟨2, 0x1F801010, .portMemctrl4⟩, ⟨2, 0x1F801014, .portMemctrl5⟩,
    ⟨2, 0x1F801018, .portMemctrl6⟩, ⟨2, 0x1F80101C, .portMemctrl7⟩, ⟨2, 0x1F801020, .portMemctrl8⟩,
    ⟨2, 0x1F801060, .portRamSizeReg⟩, bytePort 0x1F801054 .portSioStat,
    ⟨2, 0x1F801100, .portT0Counter⟩, ⟨2, 0x1F801104, .portT0Mode⟩, ⟨2, 0x1F801108, .portT0Target⟩,
    ⟨2, 0x1F80110C, .portT0None⟩, ⟨2, 0x1F801110, .portT1Counter⟩, ⟨2, 0x1F801114, .portT1Mode⟩,
    ⟨2, 0x1F801118, .portT1Target⟩, ⟨2, 0x1F80111C, .portT1None⟩, ⟨2, 0x1F801120, .portT2Counter⟩,
    ⟨2, 0x1F801124, .portT2Mode⟩, ⟨2, 0x1F801128, .portT2Target⟩, ⟨2, 0x1F80112C, .portT2None⟩,
    bytePort 0x1F020018 .portExp1Ar, bytePort 0x1F802021 .portExp2TtyStatus,
    bytePort 0x1F802023 .portExp2TtyData, bytePort 0x1F802041 .portExp2Post]

/-- The operation of the first row that matches the address. -/
def lookupRow (e : DecodeError) (a : Word) (x : Access) : List AddrRow → Except DecodeError Instr
  | [] => .error e
  | r :: rest =>
    if inRow a r.lo r.base then .ok (r.holds (segOf a) (a.setWidth r.lo) x) else lookupRow e a x rest

theorem decodePort_eq_lookupRow (a : Word) (x : Access) :
    decodePort a x = lookupRow .noPortRow a x portRows := rfl

theorem decodeRegion_eq_lookupRow (a : Word) (x : Access) :
    decodeRegion a x = lookupRow .noRegionRow a x regionRows := by
  have hmir : (a.setWidth 23).extractLsb' 21 2 = a.extractLsb' 21 2 := by
    apply BitVec.eq_of_toNat_eq
    simp only [BitVec.extractLsb'_toNat, BitVec.toNat_setWidth, Nat.shiftRight_eq_div_pow]
    omega
  have hoff : (a.setWidth 23).setWidth 21 = a.setWidth 21 :=
    BitVec.setWidth_setWidth_of_le a (by decide)
  rw [decodeRegion, ← hmir, ← hoff]
  rfl

/-- The row's addresses lie below the segment bits and begin at a multiple of their number. -/
def AddrRow.fits (r : AddrRow) : Bool :=
  decide (r.base + 2 ^ r.lo ≤ 0x20000000) && decide (r.base % 2 ^ r.lo = 0)

/-- The upper bits that both rows fix differ, so no address is in both. -/
def AddrRow.apart (r r' : AddrRow) : Bool :=
  decide (r.base / 2 ^ max r.lo r'.lo ≠ r'.base / 2 ^ max r.lo r'.lo)

theorem regionRows_fit : ∀ r ∈ regionRows, r.fits = true := by decide

theorem portRows_fit : ∀ r ∈ portRows, r.fits = true := by decide

theorem regionRows_apart : regionRows.Pairwise fun r r' => r.apart r' = true := by decide

theorem portRows_apart : portRows.Pairwise fun r r' => r.apart r' = true := by decide

/-- An address of a row agrees with it on every higher part of the address. -/
theorem physAddr_div_of_inRow {a : Word} {lo m k : Nat} (h : inRow a lo m = true) (hk : lo ≤ k) :
    Machine.physAddr a / 2 ^ k = m / 2 ^ k := by
  have hpow : 2 ^ k = 2 ^ lo * 2 ^ (k - lo) := by rw [← Nat.pow_add, Nat.add_sub_cancel' hk]
  rw [hpow, ← Nat.div_div_eq_div_mul, ← Nat.div_div_eq_div_mul, Machine.physAddr_of_inRow h]

theorem not_inRow_of_apart {r r' : AddrRow} {a : Word} (h : r.apart r' = true)
    (ha : inRow a r'.lo r'.base = true) : ¬ inRow a r.lo r.base = true := by
  intro ha'
  refine of_decide_eq_true h ?_
  rw [← physAddr_div_of_inRow ha (Nat.le_max_right _ _),
    ← physAddr_div_of_inRow ha' (Nat.le_max_left _ _)]

/-- In a table of rows apart, an address of a row is looked up as that row. -/
theorem lookupRow_of_inRow {rows : List AddrRow} {r : AddrRow} {a : Word} (e : DecodeError) (x : Access)
    (hapart : rows.Pairwise fun r r' => r.apart r' = true) (hr : r ∈ rows)
    (ha : inRow a r.lo r.base = true) :
    lookupRow e a x rows = .ok (r.holds (segOf a) (a.setWidth r.lo) x) := by
  induction rows with
  | nil => cases hr
  | cons r' rest ih =>
    obtain ⟨hhead, hrest⟩ := List.pairwise_cons.mp hapart
    rcases List.mem_cons.mp hr with rfl | hmem
    · exact if_pos ha
    · exact (if_neg (not_inRow_of_apart (hhead r hmem) ha)).trans (ih hrest hmem)

/-- An address built from a row that fits is in the row, and its parts are those it was built from. -/
theorem inRow_of_fits {r : AddrRow} (h : r.fits = true) (seg : BitVec 3) (low : BitVec r.lo) :
    inRow (rowAddress seg r.base low.toNat) r.lo r.base = true ∧
      segOf (rowAddress seg r.base low.toNat) = seg ∧
      (rowAddress seg r.base low.toNat).setWidth r.lo = low := by
  obtain ⟨hend, hbase⟩ := (Bool.and_eq_true _ _).mp h
  replace hend := of_decide_eq_true hend
  replace hbase := of_decide_eq_true hbase
  have hlow := low.isLt
  have hlt : r.base + low.toNat < 0x20000000 := by omega
  have hlo : r.lo ≤ 29 := by
    refine (Nat.pow_le_pow_iff_right (by decide : 1 < 2)).mp ?_
    omega
  refine ⟨?_, segOf_rowAddress seg _ _ hlt, ?_⟩
  · rw [inRow_rowAddress _ _ _ _ _ hlt, beq_iff_eq,
      Nat.add_div_of_dvd_right (Nat.dvd_of_mod_eq_zero hbase), Nat.div_eq_of_lt hlow, Nat.add_zero]
  · rw [setWidth_rowAddress _ _ _ _ hlt hlo hbase, BitVec.ofNat_toNat, BitVec.setWidth_eq]

theorem lookupRow_rowAddress {rows : List AddrRow} {r : AddrRow} (e : DecodeError)
    (hfit : ∀ r ∈ rows, r.fits = true) (hapart : rows.Pairwise fun r r' => r.apart r' = true)
    (hr : r ∈ rows) (seg : BitVec 3) (low : BitVec r.lo) (x : Access) :
    lookupRow e (rowAddress seg r.base low.toNat) x rows = .ok (r.holds seg low x) := by
  obtain ⟨hrow, hseg, hlow⟩ := inRow_of_fits (hfit r hr) seg low
  rw [lookupRow_of_inRow e x hapart hr hrow, hseg, hlow]

/-- A carrier laid out by a region row's address holds the row's operation (R100). -/
theorem decode_regionRow (r : AddrRow) (seg : BitVec 3) (low : BitVec r.lo) (x : Access)
    (hr : r ∈ regionRows := by simp [regionRows]) :
    decode (addressForm .region (rowAddress seg r.base low.toNat) x) = .ok (r.holds seg low x) := by
  rw [decode_regionForm, decodeRegion_eq_lookupRow]
  exact lookupRow_rowAddress _ regionRows_fit regionRows_apart hr seg low x

/-- A carrier laid out by a port row's address holds the row's operation (R101). -/
theorem decode_portRow (r : AddrRow) (seg : BitVec 3) (low : BitVec r.lo) (x : Access)
    (hr : r ∈ portRows := by simp [portRows]) :
    decode (addressForm .port (rowAddress seg r.base low.toNat) x) = .ok (r.holds seg low x) := by
  rw [decode_portForm, decodePort_eq_lookupRow]
  exact lookupRow_rowAddress _ portRows_fit portRows_apart hr seg low x

/-- The mirror and the offset of a RAM address are its row's free bits (R64). -/
theorem decode_regionRam (seg : BitVec 3) (mir : BitVec 2) (off : BitVec 21) (x : Access) :
    decode (encode (.regionRam seg mir off x)) = .ok (.regionRam seg mir off x) := by
  have hmir : (mir ++ off).extractLsb' 21 2 = mir := BitVec.extractLsb'_append_eq_left
  have hoff : (mir ++ off).setWidth 21 = off := BitVec.setWidth_append_eq_right
  have hlow : (mir ++ off).toNat = mir.toNat * 0x200000 + off.toNat := toNat_append_mul mir off
  rw [encode, ← hlow]
  refine (decode_regionRow ramRow seg (mir ++ off) x).trans ?_
  simp only [ramRow, hmir, hoff]

/-- Settles O1: packets by their operation code, address forms by the row of their table. -/
theorem decodeEncodeRoundTrip : Obligations.DecodeEncodeRoundTrip := by
  intro i
  cases i with
  | rb | rh | rw | reserved3 | wb | wh | ww | reserved7 | reset | exec | gate | xclk | patch | exprom
    | save | load =>
    exact decode_packetForm _ _ _ _
  | regionRam seg mir off x => exact decode_regionRam seg mir off x
  | regionExp1 seg low x => exact decode_regionRow ⟨23, 0x1F000000, .regionExp1⟩ seg low x
  | regionScratchpad seg low x => exact decode_regionRow ⟨10, 0x1F800000, .regionScratchpad⟩ seg low x
  | regionMemctrlA seg low x => exact decode_regionRow ⟨5, 0x1F801000, .regionMemctrlA⟩ seg low x
  | regionMemctrlB seg low x => exact decode_regionRow ⟨2, 0x1F801020, .regionMemctrlB⟩ seg low x
  | regionPad seg low x => exact decode_regionRow ⟨4, 0x1F801040, .regionPad⟩ seg low x
  | regionSio seg low x => exact decode_regionRow ⟨4, 0x1F801050, .regionSio⟩ seg low x
  | regionMemctrl2 seg low x => exact decode_regionRow ⟨2, 0x1F801060, .regionMemctrl2⟩ seg low x
  | regionIntc seg low x => exact decode_regionRow ⟨3, 0x1F801070, .regionIntc⟩ seg low x
  | regionDma seg low x => exact decode_regionRow ⟨7, 0x1F801080, .regionDma⟩ seg low x
  | regionTimersA seg low x => exact decode_regionRow ⟨5, 0x1F801100, .regionTimersA⟩ seg low x
  | regionTimersB seg low x => exact decode_regionRow ⟨4, 0x1F801120, .regionTimersB⟩ seg low x
  | regionCdrom seg low x => exact decode_regionRow ⟨2, 0x1F801800, .regionCdrom⟩ seg low x
  | regionGpu seg low x => exact decode_regionRow ⟨3, 0x1F801810, .regionGpu⟩ seg low x
  | regionMdec seg low x => exact decode_regionRow ⟨3, 0x1F801820, .regionMdec⟩ seg low x
  | regionSpuA seg low x => exact decode_regionRow ⟨9, 0x1F801C00, .regionSpuA⟩ seg low x
  | regionSpuB seg low x => exact decode_regionRow ⟨7, 0x1F801E00, .regionSpuB⟩ seg low x
  | regionExp2 seg low x => exact decode_regionRow ⟨13, 0x1F802000, .regionExp2⟩ seg low x
  | regionBios seg low x => exact decode_regionRow ⟨19, 0x1FC00000, .regionBios⟩ seg low x
  | portMemctrl0 seg lane x => exact decode_portRow ⟨2, 0x1F801000, .portMemctrl0⟩ seg lane x
  | portMemctrl1 seg lane x => exact decode_portRow ⟨2, 0x1F801004, .portMemctrl1⟩ seg lane x
  | portMemctrl2 seg lane x => exact decode_portRow ⟨2, 0x1F801008, .portMemctrl2⟩ seg lane x
  | portMemctrl3 seg lane x => exact decode_portRow ⟨2, 0x1F80100C, .portMemctrl3⟩ seg lane x
  | portMemctrl4 seg lane x => exact decode_portRow ⟨2, 0x1F801010, .portMemctrl4⟩ seg lane x
  | portMemctrl5 seg lane x => exact decode_portRow ⟨2, 0x1F801014, .portMemctrl5⟩ seg lane x
  | portMemctrl6 seg lane x => exact decode_portRow ⟨2, 0x1F801018, .portMemctrl6⟩ seg lane x
  | portMemctrl7 seg lane x => exact decode_portRow ⟨2, 0x1F80101C, .portMemctrl7⟩ seg lane x
  | portMemctrl8 seg lane x => exact decode_portRow ⟨2, 0x1F801020, .portMemctrl8⟩ seg lane x
  | portRamSizeReg seg lane x => exact decode_portRow ⟨2, 0x1F801060, .portRamSizeReg⟩ seg lane x
  | portSioStat seg x => exact decode_portRow (bytePort 0x1F801054 .portSioStat) seg 0 x
  | portT0Counter seg lane x => exact decode_portRow ⟨2, 0x1F801100, .portT0Counter⟩ seg lane x
  | portT0Mode seg lane x => exact decode_portRow ⟨2, 0x1F801104, .portT0Mode⟩ seg lane x
  | portT0Target seg lane x => exact decode_portRow ⟨2, 0x1F801108, .portT0Target⟩ seg lane x
  | portT0None seg lane x => exact decode_portRow ⟨2, 0x1F80110C, .portT0None⟩ seg lane x
  | portT1Counter seg lane x => exact decode_portRow ⟨2, 0x1F801110, .portT1Counter⟩ seg lane x
  | portT1Mode seg lane x => exact decode_portRow ⟨2, 0x1F801114, .portT1Mode⟩ seg lane x
  | portT1Target seg lane x => exact decode_portRow ⟨2, 0x1F801118, .portT1Target⟩ seg lane x
  | portT1None seg lane x => exact decode_portRow ⟨2, 0x1F80111C, .portT1None⟩ seg lane x
  | portT2Counter seg lane x => exact decode_portRow ⟨2, 0x1F801120, .portT2Counter⟩ seg lane x
  | portT2Mode seg lane x => exact decode_portRow ⟨2, 0x1F801124, .portT2Mode⟩ seg lane x
  | portT2Target seg lane x => exact decode_portRow ⟨2, 0x1F801128, .portT2Target⟩ seg lane x
  | portT2None seg lane x => exact decode_portRow ⟨2, 0x1F80112C, .portT2None⟩ seg lane x
  | portExp1Ar seg x => exact decode_portRow (bytePort 0x1F020018 .portExp1Ar) seg 0 x
  | portExp2TtyStatus seg x => exact decode_portRow (bytePort 0x1F802021 .portExp2TtyStatus) seg 0 x
  | portExp2TtyData seg x => exact decode_portRow (bytePort 0x1F802023 .portExp2TtyData) seg 0 x
  | portExp2Post seg x => exact decode_portRow (bytePort 0x1F802041 .portExp2Post) seg 0 x

/-- Settles O2: a packet decodes by its operation code, and each code's case of R92 is one operation. -/
theorem packetOperationCodes : Obligations.PacketOperationCodes := by
  intro a b c
  simp only [decode_packetForm]
  exact ⟨rfl, rfl, rfl, rfl, rfl, rfl, rfl, rfl, rfl, rfl, rfl, rfl, rfl, rfl, rfl, rfl⟩

/-- Settles O3: the decoder evaluated at the five words. -/
theorem sampleWordsDecode : Obligations.SampleWordsDecode := by
  unfold Obligations.SampleWordsDecode
  decide

end Sys2Proof

namespace Sys2Proof.Machine

/-! ### A step takes its packet off the queue -/

/-- No operation reads or writes the queue of presented carriers. -/
theorem Change.inbox_eq {s u : State} {i : Instr} (h : Change s i u) : u.inbox = s.inbox := by
  cases h with
  | timerAccess _ j p off x =>
    obtain ⟨ts, c, d, tr, e⟩ := State.portReady_frame s p x.pend
    rw [e]
    rfl
  | kept | ramStored | scratchStored | memctrlStored | ramSizeStored | logged | executed | gateSet
    | pulsed | patched | romReplaced | saved | restored | reset => rfl

/-- A step with something presented answers, and what is left on the queue is the rest. -/
theorem step_takes_oldest {s : State} {p : Presented} {rest : List Presented}
    (h : s.inbox = p :: rest) : ∃ t, step s = .next t ∧ t.inbox = rest := by
  obtain ⟨t, hexec, u, st, d, k, rfl, hchange⟩ :=
    exec_answers (operationOf p.carrier) (State.take s p rest)
  exact ⟨_, (step_of_inbox_cons h).trans hexec, hchange.inbox_eq⟩

/-- Settles O12: the packet form is one of the forms `step_takes_oldest` covers. -/
theorem packetStepsNeverStop : Obligations.PacketStepsNeverStop :=
  fun _ _ _ hinbox _ => step_takes_oldest hinbox

/-! ### Reserved values -/

theorem pendOk_eq_false {pend : Word} (h : pend.getLsbD 31 = true) : pendOk pend = false := by
  rw [pendOk, h]
  rfl

/-- A bus request is guarded whatever its address is (R302). -/
theorem request_guards (a : Word) (x : Access) (s : State) :
    ∃ ad pa f, request a x s = guardRequest ad pa x f s := by
  unfold request
  split
  · exact ⟨_, _, _, rfl⟩
  · exact ⟨_, _, _, rfl⟩

theorem request_reserved {x : Access} (a : Word) (s : State) (h : x.pend.getLsbD 31 = true) :
    request a x s = refusedWith .reservedOp s := by
  obtain ⟨ad, pa, f, e⟩ := request_guards a x s
  rw [e]
  exact guardRequest_reserved (pendOk_eq_false h)

theorem next_guardRequest_reserved {ad : Bool} {pa : Nat} {x : Access} {f : State → State} {s : State}
    (h : x.pend.getLsbD 31 = true) :
    Host.Outcome.next (φ := Fault) (ρ := Refusal) (guardRequest ad pa x f s) =
      .next (refusedWith .reservedOp s) :=
  congrArg Host.Outcome.next (guardRequest_reserved (pendOk_eq_false h))

/-- A reserved `pend` is the first thing every bus request is refused for, packet or row (R106, R302). -/
theorem exec_reserved_pend {i : Instr} (s : State) (h : (Instr.pend i).getLsbD 31 = true) :
    exec i s = .next (refusedWith .reservedOp s) := by
  cases i with
  | rb a | rh a | rw a | wb a | wh a | ww a =>
    exact congrArg Host.Outcome.next (request_reserved a s h)
  | reserved3 | reserved7 | reset | exec | gate | xclk | patch | exprom | save | load =>
    simp [Instr.pend] at h
  | regionRam | regionExp1 | regionScratchpad | regionMemctrlA | regionMemctrlB | regionPad | regionSio
    | regionMemctrl2 | regionIntc | regionDma | regionTimersA | regionTimersB | regionCdrom | regionGpu
    | regionMdec | regionSpuA | regionSpuB | regionExp2 | regionBios =>
    exact next_guardRequest_reserved h
  | portMemctrl0 | portMemctrl1 | portMemctrl2 | portMemctrl3 | portMemctrl4 | portMemctrl5
    | portMemctrl6 | portMemctrl7 | portMemctrl8 | portRamSizeReg | portSioStat | portT0Counter
    | portT0Mode | portT0Target | portT0None | portT1Counter | portT1Mode | portT1Target | portT1None
    | portT2Counter | portT2Mode | portT2Target | portT2None | portExp1Ar | portExp2TtyStatus
    | portExp2TtyData | portExp2Post =>
    exact next_guardRequest_reserved h

theorem timerOfOperand_eq_none {k : Word} (h : 2 < k.toNat) : timerOfOperand k = none := by
  unfold timerOfOperand
  iterate 3 rw [if_neg (by omega)]

/-- GATE serves timers 0 to 2 only. -/
theorem exec_gate_reserved {k : Word} (l : Word) (s : State) (h : 2 < k.toNat) :
    exec (.gate k l) s = .next (refusedWith .reservedOp s) := by
  show execGate k l s = _
  rw [execGate, timerOfOperand_eq_none h]
  rfl

theorem exec_exec_reserved {n : Word} (s : State) (h : n.getLsbD 31 = true) :
    exec (.exec n) s = .next (refusedWith .reservedOp s) :=
  if_pos h

theorem exec_exprom_reserved {n : Word} (s : State) (h : 0x800000 < n.toNat) :
    exec (.exprom n) s = .next (refusedWith .reservedOp s) :=
  if_pos h

/-- XCLK serves timers 0 and 1 only, and a count below 2^31 only. -/
theorem exec_xclk_reserved {k n : Word} (s : State) (h : 1 < k.toNat ∨ n.getLsbD 31 = true) :
    exec (.xclk k n) s = .next (refusedWith .reservedOp s) := by
  show execXclk k n s = _
  unfold execXclk
  split
  · rfl
  · rfl
  next i hne hi =>
    refine if_pos (h.resolve_left fun hk => ?_)
    unfold timerOfOperand at hi
    rw [if_neg (by omega), if_neg (by omega)] at hi
    rcases of_ite_eq hi with ⟨_, e⟩ | ⟨_, e⟩
    · exact hne (Option.some.inj e).symm
    · cases e

/-- Settles O37: the sideband values one by one, the reserved `pend` over all bus requests at once. -/
theorem reservedValuesRefused : Obligations.ReservedValuesRefused := fun s =>
  ⟨rfl, rfl, fun _ h => exec_exec_reserved s h, fun _ _ h => exec_xclk_reserved s h,
    fun _ l h => exec_gate_reserved l s h, fun _ h => exec_exprom_reserved s h,
    fun _ h => exec_reserved_pend s h⟩

/-! ### The port rows inside their region

A port row serves its register at the lane; its region serves the register's place in the region. Both
read the place modulo 4 only. -/

theorem regOff_add_lane {base : Nat} (h : base % 4 = 0) (lane : BitVec 2) :
    regOff (base + lane.toNat) = base := by
  rw [regOff]
  omega

/-- The place of a register modulo 4 is the lane. -/
theorem add_lane_mod_four {base : Nat} (h : base % 4 = 0) (lane : BitVec 2) :
    (base + lane.toNat) % 4 = lane.toNat % 4 := by
  omega

theorem laneRead_congr {off off' : Nat} (h : off % 4 = off' % 4) (z : Size) (w : Word) :
    laneRead z off w = laneRead z off' w := by
  rw [laneRead, laneRead, h]

theorem laneWrite_congr {off off' : Nat} (h : off % 4 = off' % 4) (x : Access) :
    laneWrite x off = laneWrite x off' := by
  rw [laneWrite, laneWrite, h]

theorem serveMemctrlReg_congr {off off' : Nat} (h : off % 4 = off' % 4) (r : McReg) (x : Access)
    (s : State) : serveMemctrlReg r off x s = serveMemctrlReg r off' x s := by
  simp only [serveMemctrlReg, laneRead_congr h, laneWrite_congr h]

theorem serveTimerPort_congr {off off' : Nat} (h : off % 4 = off' % 4) (j : TimerId) (p : TimerPort)
    (x : Access) (s : State) : serveTimerPort j p off x s = serveTimerPort j p off' x s := by
  simp only [serveTimerPort, laneRead_congr h, laneWrite_congr h]

/-- The port row of the `k`-th MEMCTRL register serves MEMCTRL at `4 * k` and the lane (R98). -/
theorem exec_memctrlPort_serves (k : Nat) (seg : BitVec 3) (lane : BitVec 2) (x : Access) (s : State) :
    exec (memctrlPort (McReg.ofIndex k) seg lane x) s =
      .next (guardRequest true (4 * k + lane.toNat) x (serveMemctrl (4 * k + lane.toNat) x) s) := by
  have hmod := add_lane_mod_four (base := 4 * k) (by omega) lane
  have hserve : serveMemctrl (4 * k + lane.toNat) x =
      serveMemctrlReg (McReg.ofIndex k) lane.toNat x := by
    funext u
    rw [serveMemctrl, regOff_add_lane (by omega), Nat.mul_div_cancel_left k (by decide),
      serveMemctrlReg_congr hmod]
  rw [exec_memctrlPort, hserve, guardRequest_congr hmod]

/-- The place of a timer's port in TIMERS (R98). -/
def timerPlace (j : TimerId) (p : TimerPort) : Nat :=
  16 * timerIndex j + 4 * portIndex p

theorem timerOfOffset_timerPlace (j : TimerId) (p : TimerPort) :
    timerOfOffset (timerPlace j p) = j := by
  cases j <;> cases p <;> rfl

theorem portOfOffset_timerPlace (j : TimerId) (p : TimerPort) :
    portOfOffset (timerPlace j p) = p := by
  cases j <;> cases p <;> rfl

theorem timerPlace_mod_four (j : TimerId) (p : TimerPort) : timerPlace j p % 4 = 0 := by
  rw [timerPlace]
  omega

/-- At the place of a port, TIMERS serves that port of that timer. -/
theorem serveTimers_timerPlace (j : TimerId) (p : TimerPort) (lane : BitVec 2) (x : Access) (s : State) :
    serveTimers (timerPlace j p + lane.toNat) x s = serveTimerPort j p lane.toNat x s := by
  have h4 := timerPlace_mod_four j p
  rw [serveTimers, regOff_add_lane h4, timerOfOffset_timerPlace, portOfOffset_timerPlace,
    serveTimerPort_congr (add_lane_mod_four h4 lane)]

/-- A timer's port row serves TIMERS at the port's place and the lane (R98). -/
theorem exec_timerPort_serves (j : TimerId) (p : TimerPort) (seg : BitVec 3) (lane : BitVec 2)
    (x : Access) (s : State) :
    exec (timerPort j p seg lane x) s =
      .next (guardRequest true (timerPlace j p + lane.toNat) x
        (serveTimers (timerPlace j p + lane.toNat) x) s) := by
  have hserve : serveTimers (timerPlace j p + lane.toNat) x = serveTimerPort j p lane.toNat x :=
    funext fun u => serveTimers_timerPlace j p lane x u
  rw [exec_timerPort, hserve,
    guardRequest_congr (add_lane_mod_four (timerPlace_mod_four j p) lane)]

/-- The operation serves the region and the offset that the address decoder finds (R63). -/
def ServesAddress (a : Word) (x : Access) (i : Instr) : Prop :=
  ∃ r off, decodePhys (physAddr a) = some (r, off) ∧
    ∀ s, exec i s = .next (guardRequest (adapted r) off x (serveRegion r off x) s)

/-- The port row of the `k`-th MEMCTRL register serves what its address decodes to. -/
theorem memctrlPort_at {a : Word} (k : Nat) (hk : k < 9)
    (ha : physAddr a = 0x1F801000 + 4 * k + (a.setWidth 2).toNat) (x : Access) :
    ServesAddress a x (memctrlPort (McReg.ofIndex k) (segOf a) (a.setWidth 2) x) :=
  ⟨.memctrl, 4 * k + (a.setWidth 2).toNat, decodePhys_at (decodePhys_memctrl (by omega)) (by omega),
    exec_memctrlPort_serves k (segOf a) (a.setWidth 2) x⟩

theorem timerPlace_lt (j : TimerId) (p : TimerPort) : timerPlace j p < 0x30 := by
  cases j <;> cases p <;> decide

/-- A timer's port row serves what its address decodes to. -/
theorem timerPort_at {a : Word} (j : TimerId) (p : TimerPort)
    (ha : physAddr a = 0x1F801100 + timerPlace j p + (a.setWidth 2).toNat) (x : Access) :
    ServesAddress a x (timerPort j p (segOf a) (a.setWidth 2) x) := by
  have hlt := timerPlace_lt j p
  have h4 := timerPlace_mod_four j p
  exact ⟨.timers, timerPlace j p + (a.setWidth 2).toNat,
    decodePhys_at (decodePhys_timers (by omega)) (by omega),
    exec_timerPort_serves j p (segOf a) (a.setWidth 2) x⟩

/-- A port row serves the region and the offset that the address decoder finds (R98, R101). -/
theorem decodePort_serves {a : Word} {x : Access} {i : Instr} (h : decodePort a x = .ok i) :
    ServesAddress a x i := by
  rcases decodePort_cases h with ⟨hrow, rfl⟩ | ⟨hrow, rfl⟩ | ⟨hrow, rfl⟩ | ⟨hrow, rfl⟩ |
    ⟨hrow, rfl⟩ | ⟨hrow, rfl⟩ | ⟨hrow, rfl⟩ | ⟨hrow, rfl⟩ | ⟨hrow, rfl⟩ | ⟨hrow, rfl⟩ | ⟨hrow, rfl⟩ |
    ⟨hrow, rfl⟩ | ⟨hrow, rfl⟩ | ⟨hrow, rfl⟩ | ⟨hrow, rfl⟩ | ⟨hrow, rfl⟩ | ⟨hrow, rfl⟩ | ⟨hrow, rfl⟩ |
    ⟨hrow, rfl⟩ | ⟨hrow, rfl⟩ | ⟨hrow, rfl⟩ | ⟨hrow, rfl⟩ | ⟨hrow, rfl⟩ | ⟨hrow, rfl⟩ | ⟨hrow, rfl⟩ |
    ⟨hrow, rfl⟩ | ⟨hrow, rfl⟩
  all_goals have hpa := physAddr_eq_add_of_inRow hrow (by decide) (by decide)
  · exact memctrlPort_at 0 (by decide) hpa x
  · exact memctrlPort_at 1 (by decide) hpa x
  · exact memctrlPort_at 2 (by decide) hpa x
  · exact memctrlPort_at 3 (by decide) hpa x
  · exact memctrlPort_at 4 (by decide) hpa x
  · exact memctrlPort_at 5 (by decide) hpa x
  · exact memctrlPort_at 6 (by decide) hpa x
  · exact memctrlPort_at 7 (by decide) hpa x
  · exact memctrlPort_at 8 (by decide) hpa x
  · exact ⟨.memctrl2, (a.setWidth 2).toNat,
      decodePhys_at (decodePhys_memctrl2 (by omega)) (by omega), fun _ => rfl⟩
  · exact ⟨.sio, 0x04, decodePhys_at (decodePhys_sio (by omega)) (by omega), fun _ => rfl⟩
  · exact timerPort_at .t0 .counter hpa x
  · exact timerPort_at .t0 .mode hpa x
  · exact timerPort_at .t0 .target hpa x
  · exact timerPort_at .t0 .none hpa x
  · exact timerPort_at .t1 .counter hpa x
  · exact timerPort_at .t1 .mode hpa x
  · exact timerPort_at .t1 .target hpa x
  · exact timerPort_at .t1 .none hpa x
  · exact timerPort_at .t2 .counter hpa x
  · exact timerPort_at .t2 .mode hpa x
  · exact timerPort_at .t2 .target hpa x
  · exact timerPort_at .t2 .none hpa x
  · exact ⟨.exp1, 0x20018, decodePhys_at (decodePhys_exp1 (by omega)) (by omega),
      exec_portExp1Ar _ x⟩
  · exact ⟨.exp2, 0x21, decodePhys_at (decodePhys_exp2 (by omega)) (by omega),
      exec_portExp2TtyStatus _ x⟩
  · exact ⟨.exp2, 0x23, decodePhys_at (decodePhys_exp2 (by omega)) (by omega),
      exec_portExp2TtyData _ x⟩
  · exact ⟨.exp2, 0x41, decodePhys_at (decodePhys_exp2 (by omega)) (by omega),
      exec_portExp2Post _ x⟩

/-- Settles O6: the address is mapped, so a region row matches it, and both rows serve the region and the
offset that the address decoder finds. -/
theorem portRowsServeTheirRegion : Obligations.PortRowsServeTheirRegion := by
  intro a x j s hport
  obtain ⟨r, off, hphys, hserves⟩ := decodePort_serves hport
  cases hregion : decodeRegion a x with
  | error e =>
    have hnone := decodePhys_unmapped (physAddr_lt a) (unmapped_of_decodeRegion_error hregion)
    rw [hphys] at hnone
    cases hnone
  | ok i =>
    obtain ⟨r', off', hphys', hserves'⟩ := decodeRegion_serves hregion
    rw [hphys] at hphys'
    cases hphys'
    exact ⟨i, rfl, by rw [hserves, hserves']⟩

/-! ### The timer region rows -/

/-- A request to a timer port completes, at the cost of two ticks (R220). -/
theorem serveTimerPort_response (j : TimerId) (p : TimerPort) (off : Nat) (x : Access) (s : State) :
    (serveTimerPort j p off x s).response.status = .ok ∧
      (serveTimerPort j p off x s).response.ticks = 2 := by
  unfold serveTimerPort
  cases x.dir <;> exact ⟨rfl, rfl⟩

/-- A row that serves TIMERS at a port's place and lane does what the port row does, and completes. -/
theorem timersRow_completes {i : Instr} {j : TimerId} {p : TimerPort} {lane : BitVec 2} {x : Access}
    {s : State} {off : Nat} (hoff : off = timerPlace j p + lane.toNat)
    (hrow : exec i s = .next (guardRequest true off x (serveTimers off x) s))
    (seg : BitVec 3) (hpend : x.pend.getLsbD 31 = false) :
    ∃ t, exec i s = .next t ∧ exec (timerPort j p seg lane x) s = .next t ∧
      t.response.status = .ok ∧ t.response.ticks = 2 := by
  subst hoff
  have hport := exec_timerPort_serves j p seg lane x s
  rw [guardRequest_serves (pendOk_eq_true hpend) (.inl rfl), serveTimers_timerPlace] at hrow hport
  exact ⟨_, hrow, hport, serveTimerPort_response j p lane.toNat x s⟩

/-- Settles O42: row a serves TIMERS from offset 0, row b from the offset of timer 2. -/
theorem timerRegionRows : Obligations.TimerRegionRows := by
  intro j p seg lane x s hpend
  refine ⟨fun low _ hlow => ?_, fun low hj hlow => ?_⟩
  · exact timersRow_completes hlow rfl seg hpend
  · subst hj
    refine timersRow_completes (off := 0x20 + low.toNat) ?_ rfl seg hpend
    rw [timerPlace, timerIndex]
    omega

end Sys2Proof.Machine

namespace Sys2Proof.Machine

/-! ### The region rows of the block's own stores

Each of the three rows guards its request at the row's own offset, without the lane rule, and then serves
its store. -/

theorem exec_regionRam (seg : BitVec 3) (mir : BitVec 2) (off : BitVec 21) (x : Access) (s : State) :
    exec (.regionRam seg mir off x) s =
      .next (guardRequest false off.toNat x (serveRam off.toNat x) s) := rfl

theorem exec_regionScratchpad (seg : BitVec 3) (low : BitVec 10) (x : Access) (s : State) :
    exec (.regionScratchpad seg low x) s =
      .next (guardRequest false low.toNat x (serveScratch low.toNat x) s) := rfl

theorem exec_regionBios (seg : BitVec 3) (low : BitVec 19) (x : Access) (s : State) :
    exec (.regionBios seg low x) s =
      .next (guardRequest false low.toNat x (serveBios low.toNat x) s) := rfl

theorem serveScratch_read (off : Nat) (z : Size) (v pend : Word) (s : State) :
    serveScratch off ⟨.read, z, v, pend⟩ s =
      { s with response := ⟨.ok, littleEndian (Memory.read s.scratch) off z, 1⟩ } := by
  rw [← loadWord_eq_littleEndian]
  rfl

theorem serveScratch_write {s : State} (h : Memory.wf s.scratch = true) (off : Nat) (z : Size)
    (v pend : Word) :
    ∃ scratch', serveScratch off ⟨.write, z, v, pend⟩ s =
        { s with scratch := scratch', response := ⟨.ok, 0, 1⟩ } ∧
      StoredInto s.scratch scratch' off v (nbytes z) :=
  ⟨_, rfl, storedInto_wdata h off ⟨.write, z, v, pend⟩⟩

theorem serveBios_read (off : Nat) (z : Size) (v pend : Word) (s : State) :
    serveBios off ⟨.read, z, v, pend⟩ s =
      { s with response :=
        ⟨.ok, littleEndian (Memory.read s.bios) off z, s.biosTime.of z⟩ } := by
  rw [← loadWord_eq_littleEndian]
  rfl

/-- A write to the BIOS is dropped (R137). -/
theorem serveBios_write (off : Nat) (z : Size) (v pend : Word) (s : State) :
    serveBios off ⟨.write, z, v, pend⟩ s = { s with response := ⟨.ok, 0, s.biosTime.of z⟩ } := rfl

/-- Settles O18: the row serves RAM at its offset, and an aligned access ends inside the store because
the size divides its length. -/
theorem ramRows : Obligations.RamRows := by
  intro seg mir off size value pend s hpend
  refine ⟨fun hal => ⟨aligned_end_le ((aligned_iff _ _).mpr hal) off.isLt rfl, ?_, fun hwf => ?_⟩,
    fun hmis dir => ?_⟩
  · rw [exec_regionRam, guardRequest_of_aligned (x := ⟨.read, size, value, pend⟩) hpend hal,
      serveRam_read]
  · obtain ⟨ram', hserve, hstored⟩ := serveRam_write hwf off.toNat size value pend
    refine ⟨ram', ?_, hstored⟩
    rw [exec_regionRam, guardRequest_of_aligned (x := ⟨.write, size, value, pend⟩) hpend hal, hserve]
  · rw [exec_regionRam, guardRequest_of_misaligned (x := ⟨dir, size, value, pend⟩) hpend hmis]

/-- Settles O20: the row serves SCRATCH at its offset, and the address after its last byte lies in a hole
of R65. -/
theorem scratchpadRow : Obligations.ScratchpadRow := by
  refine ⟨fun seg low size value pend s hpend => ⟨fun hal => ⟨?_, fun hwf => ?_⟩, fun hmis dir => ?_⟩,
    decodePhys_unmapped (by decide) (.inr (.inl (by decide)))⟩
  · rw [exec_regionScratchpad, guardRequest_of_aligned (x := ⟨.read, size, value, pend⟩) hpend hal,
      serveScratch_read]
  · obtain ⟨scratch', hserve, hstored⟩ := serveScratch_write hwf low.toNat size value pend
    refine ⟨scratch', ?_, hstored⟩
    rw [exec_regionScratchpad, guardRequest_of_aligned (x := ⟨.write, size, value, pend⟩) hpend hal,
      hserve]
  · rw [exec_regionScratchpad, guardRequest_of_misaligned (x := ⟨dir, size, value, pend⟩) hpend hmis]

/-- Settles O21: the row serves BIOS at its offset, at the cost of the table of the state. -/
theorem biosRow : Obligations.BiosRow := by
  intro seg low size value pend s hpend
  refine ⟨fun hal => ⟨?_, ?_⟩, fun hmis dir => ?_⟩
  · rw [exec_regionBios, guardRequest_of_aligned (x := ⟨.read, size, value, pend⟩) hpend hal,
      serveBios_read]
  · rw [exec_regionBios, guardRequest_of_aligned (x := ⟨.write, size, value, pend⟩) hpend hal,
      serveBios_write]
  · rw [exec_regionBios, guardRequest_of_misaligned (x := ⟨dir, size, value, pend⟩) hpend hmis]

end Sys2Proof.Machine

namespace Sys2Proof.Machine

/-! ### The lane rule at the lane of a port

A port row names its lane by the two address bits it leaves free, so the lane rule shifts by eight times
their number (R190, R191). -/

theorem laneRead_lane (z : Size) (lane : BitVec 2) (w : Word) :
    laneRead z lane.toNat w = truncTo z (w >>> (8 * lane.toNat)) := by
  rw [laneRead, Nat.mod_eq_of_lt lane.isLt, Nat.mul_comm]

theorem laneWrite_lane (x : Access) (lane : BitVec 2) :
    laneWrite x lane.toNat = truncTo x.size x.value <<< (8 * lane.toNat) := by
  rw [laneWrite, Nat.mod_eq_of_lt lane.isLt, Nat.mul_comm, Access.wdata]

/-! ### The rows of the MEMCTRL registers -/

theorem McReg.ofIndex_mcIndex (r : McReg) : McReg.ofIndex (mcIndex r) = r := by
  cases r <;> rfl

/-- The model's masked write, which recomputes through the platform, is the formula of R161 and R171. -/
theorem memctrlWrite_eq_memctrlWritten (s : State) (r : McReg) (v : Word) :
    State.memctrlWrite s r v = memctrlWritten s r v := by
  simp only [State.memctrlWrite, memctrlWritten, ne_eq, ite_not]
  rfl

theorem serveMemctrlReg_read (r : McReg) (lane : BitVec 2) (z : Size) (v pend : Word) (s : State) :
    serveMemctrlReg r lane.toNat ⟨.read, z, v, pend⟩ s =
      { s with response :=
        ⟨.ok, truncTo z (MemCtrl.get s.memctrl r >>> (8 * lane.toNat)), 2⟩ } := by
  rw [← laneRead_lane]
  rfl

theorem serveMemctrlReg_write (r : McReg) (lane : BitVec 2) (z : Size) (v pend : Word) (s : State) :
    serveMemctrlReg r lane.toNat ⟨.write, z, v, pend⟩ s =
      { memctrlWritten s r (truncTo z v <<< (8 * lane.toNat)) with response := ⟨.ok, 0, 2⟩ } := by
  rw [← memctrlWrite_eq_memctrlWritten, ← laneWrite_lane ⟨.write, z, v, pend⟩]
  rfl

/-- MEMCTRL at a register's place and a lane is that register at that lane (R98). -/
theorem serveMemctrl_place (r : McReg) (lane : BitVec 2) (x : Access) (s : State) :
    serveMemctrl (4 * mcIndex r + lane.toNat) x s = serveMemctrlReg r lane.toNat x s := by
  have hplace : 4 * mcIndex r % 4 = 0 := Nat.mul_mod_right 4 _
  rw [serveMemctrl, regOff_add_lane hplace, Nat.mul_div_cancel_left _ (by decide),
    McReg.ofIndex_mcIndex, serveMemctrlReg_congr (add_lane_mod_four hplace lane)]

section MemctrlRows

variable {r : McReg} {lane : BitVec 2} {x : Access} {s : State} (hpend : x.pend.getLsbD 31 = false)

include hpend

theorem exec_memctrlPort_lane (seg : BitVec 3) :
    exec (memctrlPort r seg lane x) s = .next (serveMemctrlReg r lane.toNat x s) := by
  rw [exec_memctrlPort, guardRequest_serves (pendOk_eq_true hpend) (.inl rfl)]

theorem exec_regionMemctrlA_lane (seg : BitVec 3) {low : BitVec 5}
    (hlow : low.toNat = 4 * mcIndex r + lane.toNat) :
    exec (.regionMemctrlA seg low x) s = .next (serveMemctrlReg r lane.toNat x s) := by
  show Host.Outcome.next (guardRequest true low.toNat x (serveMemctrl low.toNat x) s) = _
  rw [guardRequest_serves (pendOk_eq_true hpend) (.inl rfl), hlow, serveMemctrl_place]

/-- Row b begins at the place of `common_delay`, the register of index 8. -/
theorem exec_regionMemctrlB_lane (seg : BitVec 3) :
    exec (.regionMemctrlB seg lane x) s = .next (serveMemctrlReg .commonDelay lane.toNat x s) := by
  show Host.Outcome.next (guardRequest true (0x20 + lane.toNat) x
    (serveMemctrl (4 * mcIndex .commonDelay + lane.toNat) x) s) = _
  rw [guardRequest_serves (pendOk_eq_true hpend) (.inl rfl), serveMemctrl_place]

/-- The port row, row a at the register's place, and row b for `common_delay` serve one register at one
lane, so what that register answers is what each of them answers (R98, R160, R161). -/
theorem memctrlRows_answer (seg : BitVec 3) {t : State} (hserve : serveMemctrlReg r lane.toNat x s = t) :
    exec (memctrlPort r seg lane x) s = .next t ∧
      (∀ low : BitVec 5, low.toNat = 4 * mcIndex r + lane.toNat →
        exec (.regionMemctrlA seg low x) s = .next t) ∧
      (r = .commonDelay → exec (.regionMemctrlB seg lane x) s = .next t) := by
  subst hserve
  refine ⟨exec_memctrlPort_lane hpend seg, fun low hlow => exec_regionMemctrlA_lane hpend seg hlow, ?_⟩
  rintro rfl
  exact exec_regionMemctrlB_lane hpend seg

end MemctrlRows

/-- Settles O26: every row of the register answers its read at the lane. -/
theorem memctrlReads : Obligations.MemctrlReads := fun r seg lane size value pend s hpend =>
  memctrlRows_answer (x := ⟨.read, size, value, pend⟩) hpend seg
    (serveMemctrlReg_read r lane size value pend s)

/-- Settles O27: every row of the register does its masked write at the lane. -/
theorem memctrlWrites : Obligations.MemctrlWrites := fun r seg lane size value pend s hpend =>
  memctrlRows_answer (x := ⟨.write, size, value, pend⟩) hpend seg
    (serveMemctrlReg_write r lane size value pend s)

/-! ### The rows of MEMCTRL2 -/

theorem serveMemctrl2_read (lane : BitVec 2) (z : Size) (v pend : Word) (s : State) :
    serveMemctrl2 lane.toNat ⟨.read, z, v, pend⟩ s =
      { s with response := ⟨.ok, truncTo z (s.ramSizeReg >>> (8 * lane.toNat)), 2⟩ } := by
  rw [← laneRead_lane]
  rfl

theorem serveMemctrl2_write (lane : BitVec 2) (z : Size) (v pend : Word) (s : State) :
    serveMemctrl2 lane.toNat ⟨.write, z, v, pend⟩ s =
      { s with ramSizeReg := truncTo z v <<< (8 * lane.toNat), response := ⟨.ok, 0, 2⟩ } := by
  rw [← laneWrite_lane ⟨.write, z, v, pend⟩]
  rfl

theorem exec_regionMemctrl2_lane {x : Access} (hpend : x.pend.getLsbD 31 = false) (seg : BitVec 3)
    (lane : BitVec 2) (s : State) :
    exec (.regionMemctrl2 seg lane x) s = .next (serveMemctrl2 lane.toNat x s) :=
  congrArg Host.Outcome.next (guardRequest_serves (pendOk_eq_true hpend) (.inl rfl))

/-- The port of RAM_SIZE_REG is the whole of its region. -/
theorem exec_portRamSizeReg_eq_region (seg : BitVec 3) (lane : BitVec 2) (x : Access) (s : State) :
    exec (.portRamSizeReg seg lane x) s = exec (.regionMemctrl2 seg lane x) s := rfl

/-- Settles O29: the port row does what the region row does, and that serves MEMCTRL2 at the lane. -/
theorem memctrl2Registers : Obligations.Memctrl2Registers := by
  intro seg lane size value pend s hpend
  have hread := exec_regionMemctrl2_lane (x := ⟨.read, size, value, pend⟩) hpend seg lane s
  have hwrite := exec_regionMemctrl2_lane (x := ⟨.write, size, value, pend⟩) hpend seg lane s
  rw [serveMemctrl2_read] at hread
  rw [serveMemctrl2_write] at hwrite
  exact ⟨hread, hwrite, (exec_portRamSizeReg_eq_region ..).trans hread,
    (exec_portRamSizeReg_eq_region ..).trans hwrite⟩

/-! ### The memory timing calculator

The intermediate values of R171 get names of their own, are bounded one after the other, and the costs
are read off from `calcTimes_eq`. -/

section Calc

variable (ml : MemDelayLayout) (cl : ComDelayLayout) (md cd : Word)

/-- The common delay of R171: `com0` less one and `com2`, each where its flag is set. -/
def commonDelays : Int :=
  (if md.getLsbD ml.useCom0 then field4 cd cl.com0 - 1 else 0) +
    (if md.getLsbD ml.useCom2 then field4 cd cl.com2 else 0)

/-- The floor of R171 below which no access falls: `com3` where its flag is set. -/
def leastDelay : Int :=
  if md.getLsbD ml.useCom3 then field4 cd cl.com3 else 0

/-- `first` of R171. -/
def firstCost : Int :=
  max ((if commonDelays ml cl md cd < 6 then commonDelays ml cl md cd + 1
      else commonDelays ml cl md cd) + field4 md ml.accessTime + 2)
    (leastDelay ml cl md cd + 6)

/-- `seq` of R171. -/
def seqCost : Int :=
  max (commonDelays ml cl md cd + field4 md ml.accessTime + 2) (leastDelay ml cl md cd + 2)

theorem calcTimes_eq :
    calcTimes ml cl md cd =
      if md.getLsbD ml.dataBus16 then
        ⟨(firstCost ml cl md cd).toNat, (firstCost ml cl md cd).toNat,
          (firstCost ml cl md cd + seqCost ml cl md cd).toNat⟩
      else
        ⟨(firstCost ml cl md cd).toNat, (firstCost ml cl md cd + seqCost ml cl md cd).toNat,
          (firstCost ml cl md cd + seqCost ml cl md cd + seqCost ml cl md cd
            + seqCost ml cl md cd).toNat⟩ := by
  simp only [calcTimes, firstCost, seqCost, commonDelays, leastDelay, add_assoc]

theorem field4_eq_div (w : Word) (lo : Nat) : field4 w lo = ((w.toNat / 2 ^ lo % 16 : Nat) : Int) := by
  rw [field4, Nat.shiftRight_eq_div_pow, Int.ofNat_eq_natCast]

theorem field4_bounds (w : Word) (lo : Nat) : 0 ≤ field4 w lo ∧ field4 w lo ≤ 15 := by
  rw [field4_eq_div]
  omega

/-- The common delay is negative where `com0` is 0 and its flag set (R172). -/
theorem commonDelays_bounds : -1 ≤ commonDelays ml cl md cd ∧ commonDelays ml cl md cd ≤ 29 := by
  have h0 := field4_bounds cd cl.com0
  have h2 := field4_bounds cd cl.com2
  unfold commonDelays
  split <;> split <;> omega

theorem leastDelay_bounds : 0 ≤ leastDelay ml cl md cd ∧ leastDelay ml cl md cd ≤ 15 := by
  have h3 := field4_bounds cd cl.com3
  unfold leastDelay
  split <;> omega

theorem firstCost_bounds : 6 ≤ firstCost ml cl md cd ∧ firstCost ml cl md cd ≤ 46 := by
  have hcommon := commonDelays_bounds ml cl md cd
  have hleast := leastDelay_bounds ml cl md cd
  have haccess := field4_bounds md ml.accessTime
  unfold firstCost
  split <;> omega

theorem seqCost_bounds : 2 ≤ seqCost ml cl md cd ∧ seqCost ml cl md cd ≤ 46 := by
  have hcommon := commonDelays_bounds ml cl md cd
  have hleast := leastDelay_bounds ml cl md cd
  have haccess := field4_bounds md ml.accessTime
  unfold seqCost
  omega

end Calc

/-- Settles O59: `first` is 6 to 46 and `seq` 2 to 46, and the width flag of the bus says which sums of
them the three costs are. -/
theorem calcFormulaAndBounds : Obligations.CalcFormulaAndBounds := by
  intro ml cl md cd r field both least first seq
  have hfield : field = field4 := funext₂ fun w lo => (field4_eq_div w lo).symm
  clear_value field
  subst hfield
  have hr : r = if md.getLsbD ml.dataBus16 then ⟨first.toNat, first.toNat, (first + seq).toNat⟩
      else ⟨first.toNat, (first + seq).toNat, (first + seq + seq + seq).toNat⟩ :=
    calcTimes_eq ml cl md cd
  have hfirst : 6 ≤ first ∧ first ≤ 46 := firstCost_bounds ml cl md cd
  have hseq : 2 ≤ seq ∧ seq ≤ 46 := seqCost_bounds ml cl md cd
  clear_value r first seq
  subst hr
  cases md.getLsbD ml.dataBus16 with
  | true =>
    simp only [if_true, and_true]
    omega
  | false =>
    simp only [Bool.false_eq_true, if_false]
    omega

end Sys2Proof.Machine

namespace Sys2Proof.Machine

/-! ### A row without the lane rule, asked at a fixed offset

The rows of SIO, PAD, CDROM, GPU, MDEC and SPU differ in what they serve, not in their guard: what an
aligned request answers is what the region serves, and a misaligned one is refused (R70, R302). -/

section GuardedRows

variable {row : Access → Instr} {f : Access → State → State} {off : Nat} {dir : Dir} {size : Size}
  {value pend : Word} {s t : State}
  (hrow : ∀ x, exec (row x) s = .next (guardRequest false off x (f x) s))
  (hpend : pend.getLsbD 31 = false)

include hrow hpend

theorem exec_row_aligned (hal : off % nbytes size = 0) (hserve : f ⟨dir, size, value, pend⟩ s = t) :
    exec (row ⟨dir, size, value, pend⟩) s = .next t := by
  rw [hrow, guardRequest_of_aligned (x := ⟨dir, size, value, pend⟩) hpend hal, hserve]

theorem exec_row_misaligned (hmis : off % nbytes size ≠ 0) :
    exec (row ⟨dir, size, value, pend⟩) s = .next (refusedWith .misaligned s) := by
  rw [hrow, guardRequest_of_misaligned (x := ⟨dir, size, value, pend⟩) hpend hmis]

end GuardedRows

/-! ### SIO -/

theorem serveSio_read (off : Nat) (z : Size) (v pend : Word) (s : State) :
    serveSio off ⟨.read, z, v, pend⟩ s =
      { s with response := ⟨.ok, (if off = 4 then 5 else 0), 2⟩ } := rfl

/-- A write to the stub is dropped (R197). -/
theorem serveSio_write (off : Nat) (z : Size) (v pend : Word) (s : State) :
    serveSio off ⟨.write, z, v, pend⟩ s = { s with response := ⟨.ok, 0, 2⟩ } := rfl

theorem exec_regionSio (seg : BitVec 3) (low : BitVec 4) (x : Access) (s : State) :
    exec (.regionSio seg low x) s = .next (guardRequest false low.toNat x (serveSio low.toNat x) s) :=
  rfl

/-- The row of the status port serves SIO at the offset of the status register (R196). -/
theorem exec_portSioStat (seg : BitVec 3) (x : Access) (s : State) :
    exec (.portSioStat seg x) s = .next (guardRequest false 4 x (serveSio 4 x) s) := rfl

theorem four_mod_nbytes (z : Size) : 4 % nbytes z = 0 := by
  cases z <;> rfl

/-- Settles O25: both rows serve SIO, and every size is aligned at the status register. -/
theorem sioRow : Obligations.SioRow := by
  intro seg low size value pend s hpend
  have hregion := fun x => exec_regionSio seg low x s
  have hport := fun x => exec_portSioStat seg x s
  exact ⟨fun hal => ⟨exec_row_aligned hregion hpend hal (serveSio_read ..),
      exec_row_aligned hregion hpend hal (serveSio_write ..)⟩,
    fun hmis dir => exec_row_misaligned hregion hpend hmis,
    exec_row_aligned hport hpend (four_mod_nbytes size) (serveSio_read 4 ..),
    exec_row_aligned hport hpend (four_mod_nbytes size) (serveSio_write 4 ..)⟩

/-! ### PAD -/

theorem servePad_read (off : Nat) (z : Size) (v pend : Word) (s : State) :
    servePad off ⟨.read, z, v, pend⟩ s =
      { forwardedRead s .pad off z with
        response := ⟨.ok, truncTo z (State.nextAnswer s), 2⟩ } := rfl

theorem servePad_write (off : Nat) (z : Size) (v pend : Word) (s : State) :
    servePad off ⟨.write, z, v, pend⟩ s =
      { forwardedWrite s .pad off z (truncTo z v) with response := ⟨.ok, 0, 2⟩ } := rfl

theorem exec_regionPad (seg : BitVec 3) (low : BitVec 4) (x : Access) (s : State) :
    exec (.regionPad seg low x) s = .next (guardRequest false low.toNat x (servePad low.toNat x) s) :=
  rfl

/-- Settles O30: the row serves PAD, and that forwards the request as it is. -/
theorem padRow : Obligations.PadRow := by
  intro seg low size value pend s hpend
  have hrow := fun x => exec_regionPad seg low x s
  exact ⟨fun hal => ⟨exec_row_aligned hrow hpend hal (servePad_read ..),
      exec_row_aligned hrow hpend hal (servePad_write ..)⟩,
    fun hmis dir => exec_row_misaligned hrow hpend hmis⟩

/-! ### INTC and DMA -/

theorem regOff_eq_div_mul (off : Nat) : regOff off = off / 4 * 4 := by
  rw [regOff]
  omega

/-- A read by the lane rule takes its lane out of one forwarded word read (R192). -/
theorem serveLanes_read (c : Collab) (off : Nat) (z : Size) (v pend : Word) (s : State) :
    serveLanes c off ⟨.read, z, v, pend⟩ s =
      { forwardedRead s c (off / 4 * 4) .word with
        response := ⟨.ok, truncTo z (State.nextAnswer s >>> (off % 4 * 8)), 2⟩ } := by
  rw [← regOff_eq_div_mul]
  rfl

/-- A write by the lane rule is one forwarded word write, the other lanes zero (R192). -/
theorem serveLanes_write (c : Collab) (off : Nat) (z : Size) (v pend : Word) (s : State) :
    serveLanes c off ⟨.write, z, v, pend⟩ s =
      { forwardedWrite s c (off / 4 * 4) .word (truncTo z v <<< (off % 4 * 8)) with
        response := ⟨.ok, 0, 2⟩ } := by
  rw [← regOff_eq_div_mul]
  rfl

/-- The guard of an adapted row asks for no alignment (R71). -/
theorem exec_regionIntc {x : Access} (hpend : x.pend.getLsbD 31 = false) (seg low : BitVec 3)
    (s : State) :
    exec (.regionIntc seg low x) s = .next (serveLanes .intc low.toNat x s) :=
  congrArg Host.Outcome.next (guardRequest_serves (pendOk_eq_true hpend) (.inl rfl))

theorem exec_regionDma {x : Access} (hpend : x.pend.getLsbD 31 = false) (seg : BitVec 3)
    (low : BitVec 7) (s : State) :
    exec (.regionDma seg low x) s = .next (serveLanes .dma low.toNat x s) :=
  congrArg Host.Outcome.next (guardRequest_serves (pendOk_eq_true hpend) (.inl rfl))

/-- Settles O31: each row serves its collaborator by the lane rule, whatever the alignment. -/
theorem intcAndDmaRows : Obligations.IntcAndDmaRows := by
  intro row c off size value pend s hpend hrow
  have hserves : ∀ dir, exec (row ⟨dir, size, value, pend⟩) s =
      .next (serveLanes c off ⟨dir, size, value, pend⟩ s) := by
    intro dir
    rcases hrow with ⟨seg, low, rfl, rfl, rfl⟩ | ⟨seg, low, rfl, rfl, rfl⟩
    · exact exec_regionIntc (x := ⟨dir, size, value, pend⟩) hpend seg low s
    · exact exec_regionDma (x := ⟨dir, size, value, pend⟩) hpend seg low s
  exact ⟨by rw [hserves, serveLanes_read], by rw [hserves, serveLanes_write]⟩

/-! ### CDROM -/

theorem serveCdrom_read (off : Nat) (v pend : Word) (s : State) :
    serveCdrom off ⟨.read, .byte, v, pend⟩ s =
      { forwardedRead s .cdrom off .byte with
        response := ⟨.ok, truncTo .byte (State.nextAnswer s), s.cdromTime.byte⟩ } := rfl

theorem serveCdrom_write (off : Nat) (v pend : Word) (s : State) :
    serveCdrom off ⟨.write, .byte, v, pend⟩ s =
      { forwardedWrite s .cdrom off .byte (truncTo .byte v) with
        response := ⟨.ok, 0, s.cdromTime.byte⟩ } := rfl

/-- CDROM refuses what is wider than a byte (R203). -/
theorem serveCdrom_of_ne_byte {x : Access} (h : x.size ≠ .byte) (off : Nat) (s : State) :
    serveCdrom off x s = refusedWith .assertWidth s := by
  unfold serveCdrom
  split
  next hsize => exact absurd hsize h
  · rfl
  · rfl

theorem exec_regionCdrom (seg : BitVec 3) (low : BitVec 2) (x : Access) (s : State) :
    exec (.regionCdrom seg low x) s =
      .next (guardRequest false low.toNat x (serveCdrom low.toNat x) s) := rfl

/-- Settles O32: a byte is always aligned; a wider request meets the guard first, then the width. -/
theorem cdromRow : Obligations.CdromRow := by
  intro seg low size value pend s hpend
  have hrow := fun x => exec_regionCdrom seg low x s
  refine ⟨exec_row_aligned hrow hpend (Nat.mod_one _) (serveCdrom_read ..),
    exec_row_aligned hrow hpend (Nat.mod_one _) (serveCdrom_write ..), fun hsize dir => ?_⟩
  split
  next hal => exact exec_row_aligned hrow hpend hal (serveCdrom_of_ne_byte hsize ..)
  next hmis => exact exec_row_misaligned hrow hpend hmis

/-! ### GPU and MDEC -/

theorem serveWordPort_read (c : Collab) (off : Nat) (v pend : Word) (s : State) :
    serveWordPort c off ⟨.read, .word, v, pend⟩ s =
      { forwardedRead s c off .word with response := ⟨.ok, State.nextAnswer s, 2⟩ } := rfl

theorem serveWordPort_write (c : Collab) (off : Nat) (v pend : Word) (s : State) :
    serveWordPort c off ⟨.write, .word, v, pend⟩ s =
      { forwardedWrite s c off .word v with response := ⟨.ok, 0, 2⟩ } := rfl

/-- What is narrower than a word is an invalid access to a word port (R204, R205). -/
theorem serveWordPort_of_ne_word {x : Access} (h : x.size ≠ .word) (c : Collab) (off : Nat)
    (s : State) : serveWordPort c off x s = invalidFor x.dir x.size s := by
  rw [← State.invalid_eq]
  unfold serveWordPort
  split
  next hsize => exact absurd hsize h
  · rfl
  · rfl

theorem exec_regionGpu (seg low : BitVec 3) (x : Access) (s : State) :
    exec (.regionGpu seg low x) s =
      .next (guardRequest false low.toNat x (serveWordPort .gpu low.toNat x) s) := rfl

theorem exec_regionMdec (seg low : BitVec 3) (x : Access) (s : State) :
    exec (.regionMdec seg low x) s =
      .next (guardRequest false low.toNat x (serveWordPort .mdec low.toNat x) s) := rfl

/-- Settles O33: each row serves its collaborator as a word port. -/
theorem gpuAndMdecRows : Obligations.GpuAndMdecRows := by
  intro row c off size value pend s hpend hrow
  have hserves : ∀ x, exec (row x) s = .next (guardRequest false off x (serveWordPort c off x) s) := by
    intro x
    rcases hrow with ⟨seg, low, rfl, rfl, rfl⟩ | ⟨seg, low, rfl, rfl, rfl⟩
    · exact exec_regionGpu seg low x s
    · exact exec_regionMdec seg low x s
  exact ⟨fun hal => ⟨exec_row_aligned (size := .word) hserves hpend hal (serveWordPort_read ..),
      exec_row_aligned (size := .word) hserves hpend hal (serveWordPort_write ..)⟩,
    fun hsize hal dir => exec_row_aligned hserves hpend hal (serveWordPort_of_ne_word hsize ..),
    fun hmis dir => exec_row_misaligned hserves hpend hmis⟩

/-! ### SPU -/

/-- Two halfword answers, joined by shift and or, are one word with the second on top (R207). -/
theorem shiftLeft_or_truncTo_half (hi lo : Word) :
    (truncTo .half hi <<< 16) ||| truncTo .half lo = hi.setWidth 16 ++ lo.setWidth 16 := by
  apply BitVec.eq_of_getLsbD_eq
  intro i hi32
  simp only [BitVec.getLsbD_or, BitVec.getLsbD_shiftLeft, truncTo, BitVec.getLsbD_setWidth,
    BitVec.getLsbD_append]
  by_cases hlow : i < 16
  · simp [hlow, hi32]
  · have hhigh : i - 16 < 32 := by omega
    simp [hlow, hi32, hhigh]

/-- The low half of a word, as a halfword write sends it (R207). -/
theorem truncTo_half_eq_extract (v : Word) :
    truncTo .half v = (v.extractLsb' 0 16).setWidth 32 := by
  rw [truncTo, BitVec.setWidth_eq_extractLsb' (x := v) (w := 16) (by decide)]

/-- The high half of a word, as the second halfword write sends it (R207). -/
theorem ushiftRight_sixteen_eq_extract (v : Word) :
    v >>> 16 = (v.extractLsb' 16 16).setWidth 32 := by
  apply BitVec.eq_of_toNat_eq
  have := v.isLt
  simp only [BitVec.toNat_ushiftRight, BitVec.toNat_setWidth, BitVec.extractLsb'_toNat,
    Nat.shiftRight_eq_div_pow]
  omega

theorem serveSpu_read_half (off : Nat) (v pend : Word) (s : State) :
    serveSpu off ⟨.read, .half, v, pend⟩ s =
      { forwardedRead s .spu off .half with
        response := ⟨.ok, truncTo .half (State.nextAnswer s), s.spuTime.half⟩ } := rfl

theorem serveSpu_write_half (off : Nat) (v pend : Word) (s : State) :
    serveSpu off ⟨.write, .half, v, pend⟩ s =
      { forwardedWrite s .spu off .half (truncTo .half v) with
        response := ⟨.ok, 0, s.spuTime.half⟩ } := rfl

theorem serveSpu_read_word (off : Nat) (v pend : Word) (s : State) :
    serveSpu off ⟨.read, .word, v, pend⟩ s =
      { forwardedRead (forwardedRead s .spu off .half) .spu (off + 2) .half with
        response := ⟨.ok, (State.nextAnswer (forwardedRead s .spu off .half)).setWidth 16 ++
          (State.nextAnswer s).setWidth 16, s.spuTime.word⟩ } := by
  rw [← shiftLeft_or_truncTo_half]
  rfl

theorem serveSpu_write_word (off : Nat) (v pend : Word) (s : State) :
    serveSpu off ⟨.write, .word, v, pend⟩ s =
      { forwardedWrite
        (forwardedWrite s .spu off .half ((v.extractLsb' 0 16).setWidth 32))
        .spu (off + 2) .half ((v.extractLsb' 16 16).setWidth 32) with
          response := ⟨.ok, 0, s.spuTime.word⟩ } := by
  rw [← truncTo_half_eq_extract, ← ushiftRight_sixteen_eq_extract]
  rfl

/-- The SPU has no byte access (R207). -/
theorem serveSpu_byte (off : Nat) (dir : Dir) (v pend : Word) (s : State) :
    serveSpu off ⟨dir, .byte, v, pend⟩ s = invalidFor dir .byte s :=
  State.invalid_eq s ⟨dir, .byte, v, pend⟩

theorem exec_regionSpuA (seg : BitVec 3) (low : BitVec 9) (x : Access) (s : State) :
    exec (.regionSpuA seg low x) s =
      .next (guardRequest false low.toNat x (serveSpu low.toNat x) s) := rfl

theorem exec_regionSpuB (seg : BitVec 3) (low : BitVec 7) (x : Access) (s : State) :
    exec (.regionSpuB seg low x) s =
      .next (guardRequest false (0x200 + low.toNat) x (serveSpu (0x200 + low.toNat) x) s) := rfl

/-- Settles O34: both rows serve the SPU, and their offsets end at `0x280`, so the second half of an
aligned word begins at `0x27E` at the latest. -/
theorem spuRows : Obligations.SpuRows := by
  intro row off size value pend s hpend hrow
  have hserves : (∀ x, exec (row x) s = .next (guardRequest false off x (serveSpu off x) s)) ∧
      off < 0x280 := by
    rcases hrow with ⟨seg, low, rfl, rfl⟩ | ⟨seg, low, rfl, rfl⟩
    · exact ⟨fun x => exec_regionSpuA seg low x s, by omega⟩
    · exact ⟨fun x => exec_regionSpuB seg low x s, by omega⟩
  obtain ⟨hserves, hoff⟩ := hserves
  refine ⟨fun hal => ⟨?_, ?_⟩, fun hal => ⟨by omega, ?_, ?_⟩, fun dir => ?_, fun hmis dir => ?_⟩
  · exact exec_row_aligned (size := .half) hserves hpend hal (serveSpu_read_half ..)
  · exact exec_row_aligned (size := .half) hserves hpend hal (serveSpu_write_half ..)
  · exact exec_row_aligned (size := .word) hserves hpend hal (serveSpu_read_word ..)
  · exact exec_row_aligned (size := .word) hserves hpend hal (serveSpu_write_word ..)
  · exact exec_row_aligned hserves hpend (Nat.mod_one _) (serveSpu_byte ..)
  · exact exec_row_misaligned hserves hpend hmis

end Sys2Proof.Machine

namespace Sys2Proof.Machine

/-! ### The timer ports

A port row serves the register of its timer at its lane, in the state the port is observed in: after a
synchronize for the counter and mode ports, at once for the other two (R220). -/

section TimerPorts

variable {i : TimerId} {p : TimerPort} {seg : BitVec 3} {lane : BitVec 2} {z : Size} {v pend : Word}
  {s u : State}

/-- A read answers the register at the lane; what it does to the timer is `timerAfterRead`. -/
theorem exec_timerPort_read (hpend : pend.getLsbD 31 = false) (hready : State.portReady s p pend = u) :
    exec (timerPort i p seg lane ⟨.read, z, v, pend⟩) s =
      .next { u with
        timers := Timers.set u.timers i (timerAfterRead (Timers.get u.timers i) p)
        response :=
          ⟨.ok, truncTo z (timerRegister (Timers.get u.timers i) p >>> (8 * lane.toNat)), 2⟩ } := by
  rw [exec_timerPort,
    guardRequest_serves (x := ⟨.read, z, v, pend⟩) (pendOk_eq_true hpend) (.inl rfl),
    ← laneRead_lane, ← hready]
  rfl

/-- A write hands the value at the lane to `timerAfterWrite`. -/
theorem exec_timerPort_write (hpend : pend.getLsbD 31 = false) (hready : State.portReady s p pend = u) :
    exec (timerPort i p seg lane ⟨.write, z, v, pend⟩) s =
      .next { u with
        timers := Timers.set u.timers i
          (timerAfterWrite (Timers.get u.timers i) (truncTo z v <<< (8 * lane.toNat)) p)
        response := ⟨.ok, 0, 2⟩ } := by
  rw [exec_timerPort,
    guardRequest_serves (x := ⟨.write, z, v, pend⟩) (pendOk_eq_true hpend) (.inl rfl),
    ← laneWrite_lane ⟨.write, z, v, pend⟩, ← hready]
  rfl

/-- A port that synchronizes is observed after the pending ticks (R220, R250). -/
theorem State.portReady_synchronizing (h : portSynchronizes p = true) (s : State) (pend : Word) :
    State.portReady s p pend = synchronized s pend.toNat := by
  rw [State.portReady_eq, if_pos h]

/-- A port that does not synchronize is observed at once (R226, R228). -/
theorem State.portReady_immediate (h : portSynchronizes p = false) (s : State) (pend : Word) :
    State.portReady s p pend = s := by
  rw [State.portReady_eq, h]
  rfl

end TimerPorts

/-- Settles O38: a counter read leaves the timer as the synchronize did, a write replaces its counter. -/
theorem timerCounterPorts : Obligations.TimerCounterPorts := by
  intro i seg lane size value pend s hpend
  have hready := State.portReady_synchronizing (p := .counter) rfl s pend
  dsimp only
  constructor
  · rw [exec_timerPort_read hpend hready, timerAfterRead, Timers.set_get]
    rfl
  · rw [exec_timerPort_write hpend hready]
    rfl

/-- Settles O39: `modeReadDone` clears bits 11 and 12, `writeMode` stores `storedMode` and restarts. -/
theorem timerModePorts : Obligations.TimerModePorts := by
  intro i seg lane size value pend s hpend
  have hready := State.portReady_synchronizing (p := .mode) rfl s pend
  dsimp only
  constructor
  · rw [exec_timerPort_read hpend hready]
    rfl
  · rw [exec_timerPort_write hpend hready]
    rfl

/-- Settles O40: a target port is observed at once. -/
theorem timerTargetPorts : Obligations.TimerTargetPorts := by
  intro i seg lane size value pend s hpend
  have hready := State.portReady_immediate (p := .target) rfl s pend
  dsimp only
  constructor
  · rw [exec_timerPort_read hpend hready, timerAfterRead, Timers.set_get]
    rfl
  · rw [exec_timerPort_write hpend hready]
    rfl

/-- Settles O41: the port holds no register, so both requests leave the timer as it is. -/
theorem timerEmptyPorts : Obligations.TimerEmptyPorts := by
  intro i seg lane size value pend s hpend
  have hready := State.portReady_immediate (p := .none) rfl s pend
  constructor
  · rw [exec_timerPort_read hpend hready, timerAfterRead, Timers.set_get]
    rfl
  · rw [exec_timerPort_write hpend hready, timerAfterWrite, Timers.set_get]

/-! ### EXEC, GATE and XCLK -/

/-- Settles O43: `Execute` is the advance the statement writes out. -/
theorem execAdvances : Obligations.ExecAdvances := fun _ s =>
  ⟨fun hn => exec_exec hn s, fun hn => exec_exec_reserved s hn⟩

theorem timerOfOperand_timerIndex (i : TimerId) :
    timerOfOperand (BitVec.ofNat 32 (timerIndex i)) = some i := by
  cases i <;> rfl

/-- `sync_enable` is the lowest bit of the mode (R31). -/
theorem Timer.syncEnable_iff (t : Timer) : Timer.syncEnable t = true ↔ t.mode.toNat % 2 = 1 := by
  rw [Timer.syncEnable, BitVec.getLsbD, Nat.testBit_zero, decide_eq_true_eq]

/-- `sync_mode` is the two bits above it (R31). -/
theorem Timer.syncMode_toNat (t : Timer) : (Timer.syncMode t).toNat = t.mode.toNat / 2 % 4 := by
  rw [Timer.syncMode, BitVec.extractLsb'_toNat, Nat.shiftRight_eq_div_pow]

/-- Clearing bit 0 of an odd mode subtracts it. -/
theorem and_not_one_of_odd {m : Half} (h : m.toNat % 2 = 1) : m &&& ~~~0x0001 = m - 1 := by
  have hpair := Nat.div_add_mod (m.toNat &&& 0xFFFE) 2
  rw [Nat.and_div_two, show 0xFFFE / 2 = 2 ^ 15 - 1 from rfl, Nat.and_two_pow_sub_one_eq_mod,
    show (m.toNat &&& 0xFFFE) % 2 = 0 by simp [Nat.and_mod_two_pow (n := 1)]] at hpair
  apply BitVec.eq_of_toNat_eq
  rw [BitVec.toNat_and, show (~~~0x0001 : Half).toNat = 0xFFFE from rfl, BitVec.toNat_sub,
    show (1 : Half).toNat = 1 from rfl]
  omega

/-- `SetGate` by the numbers of the mode: an edge records the level, and a rising one under sync acts by
the sync mode (R230). -/
theorem setGate_eq (t : Timer) (level : Bool) :
    setGate t level =
      if t.gate = level then t
      else if level = true ∧ t.mode.toNat % 2 = 1 then
        (if t.mode.toNat / 2 % 4 = 0 then { t with gate := true }
          else if t.mode.toNat / 2 % 4 = 3 then { t with gate := true, mode := t.mode - 1 }
          else { t with gate := true, counter := 0 })
      else { t with gate := level } := by
  have hsync : (level && Timer.syncEnable { t with gate := level }) = true ↔
      level = true ∧ t.mode.toNat % 2 = 1 := by
    rw [Bool.and_eq_true, Timer.syncEnable_iff]
  unfold setGate
  by_cases hgate : t.gate = level
  · rw [if_pos hgate, if_pos hgate]
  rw [if_neg hgate, if_neg hgate]
  dsimp only
  by_cases hrise : level = true ∧ t.mode.toNat % 2 = 1
  · rw [if_pos (hsync.mpr hrise), if_pos hrise,
      show (Timer.syncMode { t with gate := level }).toNat = _ from Timer.syncMode_toNat t]
    obtain ⟨rfl, hodd⟩ := hrise
    have hclear : Timer.clearMode { t with gate := true } 1 =
        { t with gate := true, mode := t.mode - 1 } := by
      rw [Timer.clearMode, and_not_one_of_odd hodd]
    rcases (by omega : t.mode.toNat / 2 % 4 = 0 ∨ t.mode.toNat / 2 % 4 = 1 ∨
      t.mode.toNat / 2 % 4 = 2 ∨ t.mode.toNat / 2 % 4 = 3) with h | h | h | h <;> rw [h]
    · rfl
    · rfl
    · rfl
    · exact hclear
  · rw [if_neg fun h => hrise (hsync.mp h), if_neg hrise]

/-- Settles O44: the operand names the timer, and `SetGate` is its case split. -/
theorem gateEdges : Obligations.GateEdges := by
  intro i k level s
  refine ⟨fun hk => exec_gate_reserved level s hk, ?_⟩
  rw [← setGate_eq]
  show execGate _ level s = _
  rw [execGate, timerOfOperand_timerIndex]
  rfl

/-- A timer counts on its external clock by the tables of R37 and R38 (R39). -/
theorem externalCounting_eq_table (i : TimerId) (t : Timer) :
    externalCounting i t = (externalByTable i t && countsByTable t) := by
  rw [externalCounting, useExternalClock_eq_table, countingEnabled_eq_table]

/-- XCLK on timer 0 or 1 delivers the pulses or discards them (R243). -/
theorem exec_xclk {i : TimerId} (hi : i ≠ .t2) {n : Word} (hn : n.getLsbD 31 = false) (s : State) :
    exec (.xclk (BitVec.ofNat 32 (timerIndex i)) n) s =
      .next (State.done (if externalCounting i (State.timer s i) then State.addTicks s i n.toNat
        else s)) := by
  show execXclk _ n s = _
  unfold execXclk
  cases i with
  | t2 => exact absurd rfl hi
  | t0 | t1 =>
    rw [timerOfOperand_timerIndex, hn, apply_ite State.done, apply_ite Host.Outcome.next]
    rfl

/-- Settles O45: the two outcomes of XCLK on timer 0 or 1, whose clock selection is mode bit 8. -/
theorem xclkPulses : Obligations.XclkPulses := by
  intro i k n s
  refine ⟨fun h => exec_xclk_reserved s h, fun hi hn => ?_⟩
  have hclock : externalByTable i (Timers.get s.timers i) = (Timers.get s.timers i).mode.getLsbD 8 := by
    cases i with
    | t0 | t1 => rfl
    | t2 => exact absurd rfl hi
  rw [exec_xclk hi hn, externalCounting_eq_table, State.timer, hclock, State.addTicks_eq]
  simp only [Bool.and_eq_true]
  split <;> rfl

end Sys2Proof.Machine

namespace Sys2Proof.Machine

/-! ### The downcount

`horizon` answers the nearest of the two events a timer announces, in ticks of `Execute`, and
`computeDowncount` the nearest of the three timers' horizons and the sentinel (R248). -/

/-- `Execute` advances the timer: it counts, and is not timer 0 or 1 on its external clock (R240). -/
def Pumped (i : TimerId) (t : Timer) : Prop :=
  countsByTable t = true ∧ (i ≠ .t2 → externalByTable i t = false)

/-- The steps to the target, if the timer announces it and is below it (R248). -/
def stepsToTarget (t : Timer) : Option Nat :=
  if Timer.irqAtTarget t && decide (t.counter.toNat < t.target.toNat) then
    some (t.target.toNat - t.counter.toNat)
  else none

/-- The steps to the overflow, if the timer announces it and is below its target (R248). -/
def stepsToOverflow (t : Timer) : Option Nat :=
  if Timer.irqOnOverflow t && decide (t.counter.toNat < t.target.toNat) then
    some (0xFFFF - t.counter.toNat)
  else none

/-- A horizon of `m` steps in ticks of `Execute`: an eighth on the divided clock, but at least 1
(R248). -/
def inTicks (i : TimerId) (t : Timer) (m : Nat) : Nat :=
  if i = .t2 ∧ externalByTable .t2 t = true then max 1 (m / 8) else m

theorem inTicks_of_divided {t : Timer} (h : externalByTable .t2 t = true) :
    inTicks .t2 t = fun m => max 1 (m / 8) :=
  funext fun _ => if_pos ⟨rfl, h⟩

theorem inTicks_of_not_divided {i : TimerId} {t : Timer} (h : externalByTable i t = false) :
    inTicks i t = id := by
  refine funext fun _ => if_neg fun ⟨hi, ht⟩ => ?_
  rw [hi, ht] at h
  cases h

theorem inTicks_mono {m m' : Nat} (h : m ≤ m') (i : TimerId) (t : Timer) :
    inTicks i t m ≤ inTicks i t m' := by
  unfold inTicks
  split <;> omega

theorem inTicks_pos {m : Nat} (h : 0 < m) (i : TimerId) (t : Timer) : 0 < inTicks i t m := by
  unfold inTicks
  split <;> omega

theorem steps_eq_some_iff (t : Timer) (m : Nat) :
    (stepsToTarget t = some m ∨ stepsToOverflow t = some m) ↔
      t.counter.toNat < t.target.toNat ∧
        ((t.mode.getLsbD 4 = true ∧ m = t.target.toNat - t.counter.toNat) ∨
          (t.mode.getLsbD 5 = true ∧ m = 0xFFFF - t.counter.toNat)) := by
  simp only [stepsToTarget, stepsToOverflow, Timer.irqAtTarget, Timer.irqOnOverflow,
    Option.ite_none_right_eq_some, Option.some.injEq, Bool.and_eq_true, decide_eq_true_eq]
  grind

theorem steps_pos {t : Timer} {m : Nat} (h : stepsToTarget t = some m ∨ stepsToOverflow t = some m) :
    0 < m := by
  obtain ⟨hbelow, ⟨_, rfl⟩ | ⟨_, rfl⟩⟩ := (steps_eq_some_iff t m).mp h <;> omega

/-- A candidate of the statement is an announced event of an advanced timer, in ticks. -/
theorem candidate_iff (ts : Timers) (d : Nat) :
    Candidate ts d ↔ ∃ i m, Pumped i (Timers.get ts i) ∧
      (stepsToTarget (Timers.get ts i) = some m ∨ stepsToOverflow (Timers.get ts i) = some m) ∧
      d = inTicks i (Timers.get ts i) m := by
  simp only [Candidate, Pumped, steps_eq_some_iff, inTicks, and_assoc]

theorem horizon_of_not_pumped {i : TimerId} {t : Timer} (h : ¬ Pumped i t) : horizon i t = none := by
  unfold horizon
  simp only [countingEnabled_eq_table, useExternalClock_eq_table]
  by_cases hc : countsByTable t = true
  · cases i with
    | t0 | t1 =>
      have he : externalByTable _ t = true :=
        Bool.eq_true_of_not_eq_false fun e => h ⟨hc, fun _ => e⟩
      simp [he]
    | t2 => exact absurd ⟨hc, fun e => absurd rfl e⟩ h
  · simp [hc]

/-- The horizon of an advanced timer is its nearer announced event, in ticks. -/
theorem horizon_of_pumped {i : TimerId} {t : Timer} (h : Pumped i t) :
    horizon i t = (Option.merge min (stepsToTarget t) (stepsToOverflow t)).map (inTicks i t) := by
  obtain ⟨hc, he⟩ := h
  have hcases : externalByTable i t = false ∨ i = .t2 ∧ externalByTable .t2 t = true := by
    by_cases hi : i = .t2
    · subst hi
      exact (Bool.eq_false_or_eq_true _).symm.imp_right fun h => ⟨rfl, h⟩
    · exact .inl (he hi)
  -- Both sides are the same choice between the two announced events; what differs is the unit.
  unfold horizon stepsToTarget stepsToOverflow
  simp only [countingEnabled_eq_table, useExternalClock_eq_table, hc]
  rcases hcases with hx | ⟨rfl, hx⟩
  · rw [inTicks_of_not_divided hx]
    cases i <;> rw [hx] <;>
      cases Timer.irqAtTarget t && decide (t.counter.toNat < t.target.toNat) <;>
      cases Timer.irqOnOverflow t && decide (t.counter.toNat < t.target.toNat) <;> rfl
  · rw [inTicks_of_divided hx, hx]
    cases Timer.irqAtTarget t && decide (t.counter.toNat < t.target.toNat) <;>
      cases Timer.irqOnOverflow t && decide (t.counter.toNat < t.target.toNat) <;> rfl

/-- The nearer of two optional distances is one of them, and no later than either. -/
theorem merge_min_spec (a b : Option Nat) :
    (∀ d, Option.merge min a b = some d → a = some d ∨ b = some d) ∧
      ∀ m, (a = some m ∨ b = some m) → ∃ d, Option.merge min a b = some d ∧ d ≤ m := by
  cases a with
  | none => cases b <;> simp
  | some a =>
    cases b with
    | none => simp
    | some b =>
      simp only [Option.merge, Option.some.injEq]
      exact ⟨fun d hd => by omega, fun m hm => ⟨_, rfl, by omega⟩⟩

/-- A horizon is a candidate of its timer, and no candidate of the timer is nearer. -/
theorem horizon_spec (i : TimerId) (t : Timer) :
    (∀ d, horizon i t = some d → Pumped i t ∧
      ∃ m, (stepsToTarget t = some m ∨ stepsToOverflow t = some m) ∧ d = inTicks i t m) ∧
    (∀ m, Pumped i t → (stepsToTarget t = some m ∨ stepsToOverflow t = some m) →
      ∃ d, horizon i t = some d ∧ d ≤ inTicks i t m) := by
  obtain ⟨hfrom, hleast⟩ := merge_min_spec (stepsToTarget t) (stepsToOverflow t)
  by_cases h : Pumped i t
  · rw [horizon_of_pumped h]
    refine ⟨fun d hd => ⟨h, ?_⟩, fun m _ hm => ?_⟩
    · obtain ⟨m, hm, rfl⟩ := Option.map_eq_some_iff.mp hd
      exact ⟨m, hfrom m hm, rfl⟩
    · obtain ⟨d, hd, hle⟩ := hleast m hm
      exact ⟨_, by rw [hd]; rfl, inTicks_mono hle i t⟩
  · rw [horizon_of_not_pumped h]
    exact ⟨nofun, fun _ hp => absurd hp h⟩

/-- The downcount is the least of the sentinel and the three horizons. -/
theorem computeDowncount_spec (sentinel : Nat) (ts : Timers) :
    computeDowncount sentinel ts ≤ sentinel ∧
      (∀ i d, horizon i (Timers.get ts i) = some d → computeDowncount sentinel ts ≤ d) ∧
      (computeDowncount sentinel ts = sentinel ∨
        ∃ i, horizon i (Timers.get ts i) = some (computeDowncount sentinel ts)) := by
  unfold computeDowncount
  obtain ⟨hle0, hmem0, hfrom0⟩ := nearer_spec sentinel (horizon .t0 ts.t0)
  generalize nearer sentinel (horizon .t0 ts.t0) = b0 at *
  obtain ⟨hle1, hmem1, hfrom1⟩ := nearer_spec b0 (horizon .t1 ts.t1)
  generalize nearer b0 (horizon .t1 ts.t1) = b1 at *
  obtain ⟨hle2, hmem2, hfrom2⟩ := nearer_spec b1 (horizon .t2 ts.t2)
  generalize nearer b1 (horizon .t2 ts.t2) = b2 at *
  refine ⟨by omega, fun i d h => ?_, ?_⟩
  · cases i with
    | t0 => exact (hle2.trans hle1).trans (hmem0 d h)
    | t1 => exact hle2.trans (hmem1 d h)
    | t2 => exact hmem2 d h
  · rcases hfrom2 with rfl | h2
    · rcases hfrom1 with rfl | h1
      · exact hfrom0.imp_right fun h0 => ⟨.t0, h0⟩
      · exact .inr ⟨.t1, h1⟩
    · exact .inr ⟨.t2, h2⟩

/-- No candidate comes before the downcount. -/
theorem computeDowncount_le_candidate {sentinel : Nat} {ts : Timers} {c : Nat} (h : Candidate ts c) :
    computeDowncount sentinel ts ≤ c := by
  obtain ⟨i, m, hp, hm, rfl⟩ := (candidate_iff ts c).mp h
  obtain ⟨d, hd, hle⟩ := (horizon_spec i _).2 m hp hm
  obtain ⟨_, hmem, _⟩ := computeDowncount_spec sentinel ts
  exact (hmem i d hd).trans hle

theorem Candidate.of_horizon {ts : Timers} {i : TimerId} {d : Nat}
    (h : horizon i (Timers.get ts i) = some d) : Candidate ts d := by
  obtain ⟨hp, m, hm, hd⟩ := (horizon_spec i _).1 d h
  exact (candidate_iff ts d).mpr ⟨i, m, hp, hm, hd⟩

theorem Candidate.pos {ts : Timers} {d : Nat} (h : Candidate ts d) : 0 < d := by
  obtain ⟨i, m, _, hm, rfl⟩ := (candidate_iff ts d).mp h
  exact inTicks_pos (steps_pos hm) i _

/-- Settles O49: the three horizons are candidates, and each candidate has a horizon before it. -/
theorem downcountIsTheNearestHorizon : Obligations.DowncountIsTheNearestHorizon := by
  intro sentinel ts
  obtain ⟨hle, _, hfrom⟩ := computeDowncount_spec sentinel ts
  have hattained : computeDowncount sentinel ts = sentinel ∨
      Candidate ts (computeDowncount sentinel ts) :=
    hfrom.imp_right fun ⟨_, h⟩ => .of_horizon h
  refine ⟨hle, fun c => computeDowncount_le_candidate, hattained, fun hpos => ?_⟩
  rcases hattained with h | h
  · rwa [h]
  · exact h.pos

/-! ### Fewer ticks than the downcount -/

/-- What the ticks of a timer are: an eighth with the carry on the divided clock, else all (R240). -/
theorem ticksReceived_eq_some {s : State} {n k : Nat} {i : TimerId}
    (h : ticksReceived s n i = some k) :
    Pumped i (Timers.get s.timers i) ∧
      k = if i = .t2 ∧ externalByTable .t2 (Timers.get s.timers i) = true then (n + s.carry) / 8
        else n := by
  cases i with
  | t0 | t1 =>
    obtain ⟨hp, hk⟩ := Option.ite_none_right_eq_some.mp h
    obtain ⟨hc, he⟩ := Bool.and_eq_true_iff.mp hp
    exact ⟨⟨hc, fun _ => (Bool.not_eq_true' _).mp he⟩, (Option.some.inj hk).symm⟩
  | t2 =>
    obtain ⟨hc, h⟩ := Option.ite_none_left_eq_some.mp h
    rw [Bool.not_eq_true', Bool.not_eq_false] at hc
    refine ⟨⟨hc, fun e => absurd rfl e⟩, ?_⟩
    rcases of_ite_eq h with ⟨he, hk⟩ | ⟨he, hk⟩
    · exact (Option.some.inj hk).symm.trans (if_pos ⟨rfl, he⟩).symm
    · exact (Option.some.inj hk).symm.trans (if_neg fun e => he e.2).symm

/-- A timer that receives ticks for fewer than the ticks to an event stops before the event. -/
theorem ticksReceived_lt {s : State} {n k m : Nat} {i : TimerId} (hcarry : s.carry ≤ 7) (hm : 0 < m)
    (hk : ticksReceived s n i = some k) (hn : n < inTicks i (Timers.get s.timers i) m) : k < m := by
  obtain ⟨_, rfl⟩ := ticksReceived_eq_some hk
  unfold inTicks at hn
  split_ifs at hn ⊢ <;> omega

/-- Settles O50: an announced event of an advanced timer is a candidate, so the downcount is no later. -/
theorem downcountPrecedesEventsBelowTarget : Obligations.DowncountPrecedesEventsBelowTarget := by
  intro s n k i hcarry hn hk hbelow
  have hlt : ∀ m, (stepsToTarget (Timers.get s.timers i) = some m ∨
      stepsToOverflow (Timers.get s.timers i) = some m) → k < m := fun m hm =>
    have hcandidate := (candidate_iff s.timers _).mpr ⟨i, m, (ticksReceived_eq_some hk).1, hm, rfl⟩
    ticksReceived_lt hcarry (steps_pos hm) hk (hn.trans_le (computeDowncount_le_candidate hcandidate))
  refine ⟨fun h4 => ?_, fun h5 => ?_⟩
  · have := hlt _ ((steps_eq_some_iff _ _).mpr ⟨hbelow, .inl ⟨h4, rfl⟩⟩)
    omega
  · have := hlt _ ((steps_eq_some_iff _ _).mpr ⟨hbelow, .inr ⟨h5, rfl⟩⟩)
    omega

end Sys2Proof.Machine

namespace Sys2Proof.Machine

/-! ### Sequences of EXEC

One EXEC leaves what `Execute` leaves with a response, and a timer it advances keeps its target and every
mode bit its clock and its request depend on; a sequence is an induction over these steps. -/

theorem execEach_cons {n : Word} {ns : List Word} (hn : n.getLsbD 31 = false) (s : State) :
    execEach (n :: ns) s = execEach ns (State.respond (executed s n.toNat) .ok 0 0) := by
  rw [execEach, List.map_cons, execAll, exec_exec hn]
  rfl

theorem executed_platform (s : State) (n : Nat) : (executed s n).platform = s.platform := rfl

theorem totalTicks_nil : totalTicks [] = 0 := rfl

theorem totalTicks_cons (n : Word) (ns : List Word) :
    totalTicks (n :: ns) = n.toNat + totalTicks ns := rfl

/-- Dividing a sum in two parts, the remainder of the first carried into the second, loses nothing. -/
theorem div_add_mod_add_div {d : Nat} (hd : 0 < d) (a b : Nat) :
    a / d + (a % d + b) / d = (a + b) / d := by
  calc a / d + (a % d + b) / d
      = (a % d + b + d * (a / d)) / d := by rw [Nat.add_mul_div_left _ _ hd, Nat.add_comm]
    _ = (a + b) / d := by rw [Nat.add_right_comm, Nat.mod_add_div]

/-- Up to the divisor, a quotient only tells whether it is reached. -/
theorem ite_le_eq_div {a d : Nat} (hd : 0 < d) (h : a ≤ d) : (if d ≤ a then 1 else 0) = a / d := by
  split
  next hle => rw [Nat.le_antisymm h hle, Nat.div_self hd]
  next hlt => rw [Nat.div_eq_of_lt (Nat.lt_of_not_le hlt)]

theorem countsByTable_addTicks (t : Timer) (n : Nat) :
    countsByTable (addTicks t n).1 = countsByTable t := by
  simp only [countsByTable, addTicks_gate,
    addTicks_mode_kept (t := t) (n := n) (show 0 ≠ 10 by decide) (by decide) (by decide),
    addTicks_mode_kept (t := t) (n := n) (show 1 ≠ 10 by decide) (by decide) (by decide),
    addTicks_mode_kept (t := t) (n := n) (show 2 ≠ 10 by decide) (by decide) (by decide)]

theorem externalByTable_addTicks (i : TimerId) (t : Timer) (n : Nat) :
    externalByTable i (addTicks t n).1 = externalByTable i t := by
  cases i <;> exact addTicks_mode_kept (by decide) (by decide) (by decide)

/-- A timer that counts on sysclk receives every tick. -/
theorem ticksReceived_of_sysclk {s : State} {i : TimerId}
    (hc : countsByTable (Timers.get s.timers i) = true)
    (he : externalByTable i (Timers.get s.timers i) = false) (n : Nat) :
    ticksReceived s n i = some n := by
  cases i <;> simp only [Timers.get] at hc he <;> simp [ticksReceived, hc, he]

/-- A timer counts on sysclk, restarts at its target and requests by pulse, again and again (R252). -/
structure Periodic (i : TimerId) (t : Timer) : Prop where
  counts : countsByTable t = true
  sysclk : externalByTable i t = false
  resets : t.mode.getLsbD 3 = true
  repeats : t.mode.getLsbD 6 = true
  pulses : t.mode.getLsbD 7 = false
  target_pos : 0 < t.target.toNat

section Periodic

variable {i : TimerId} {t : Timer} {s : State}

theorem Periodic.after_addTicks (h : Periodic i t) (n : Nat) : Periodic i (addTicks t n).1 where
  counts := by rw [countsByTable_addTicks, h.counts]
  sysclk := by rw [externalByTable_addTicks, h.sysclk]
  resets := by rw [addTicks_mode_kept (by decide) (by decide) (by decide), h.resets]
  repeats := by rw [addTicks_mode_kept (by decide) (by decide) (by decide), h.repeats]
  pulses := by rw [addTicks_mode_kept (by decide) (by decide) (by decide), h.pulses]
  target_pos := by rw [addTicks_target]; exact h.target_pos

theorem Periodic.counter_addTicks (h : Periodic i t) (n : Nat) :
    (addTicks t n).1.counter.toNat = (t.counter.toNat + n) % t.target.toNat := by
  have hne : t.target ≠ 0 := fun e => absurd h.target_pos (by rw [e]; decide)
  rw [addTicks_counter, wrapCounter_toNat, if_pos h.resets, if_neg hne]

/-- Every event fires: the line rests high and the latch does not bind (R245, R246). -/
theorem Periodic.fires_iff (h : Periodic i t) (hbelow : t.counter.toNat < t.target.toNat)
    (n : Nat) : (addTicks t n).2 = true ↔ t.target.toNat ≤ t.counter.toNat + n := by
  have htarget := t.target.isLt
  cases hevent : crossesTarget t n || reachesOverflow t n
  · rw [addTicks_of_no_event hevent]
    refine iff_of_false nofun fun hle => ?_
    have hcross := (Bool.or_eq_false_iff.mp hevent).1
    rw [(crossesTarget_iff t n).mpr ⟨hle, hbelow⟩] at hcross
    cases hcross
  · rw [((addTicks_request hevent).1 h.pulses).2, h.repeats]
    rw [Bool.or_eq_true, crossesTarget_iff, reachesOverflow_iff] at hevent
    exact iff_of_true rfl (by omega)

/-- `Execute` gives the timer one `AddTicks` of the whole count. -/
theorem Periodic.executed_timer (h : Periodic i (Timers.get s.timers i)) (n : Nat) :
    Timers.get (executed s n).timers i = (addTicks (Timers.get s.timers i) n).1 := by
  show Timers.get (timersAfter s n) i = _
  rw [timersAfter_get, ticksReceived_of_sysclk h.counts h.sysclk]
  rfl

/-- One EXEC requests the timer's interrupt once if the counter gets to the target, else not. -/
theorem Periodic.irqCount_executed (h : Periodic i (Timers.get s.timers i))
    (hbelow : (Timers.get s.timers i).counter.toNat < (Timers.get s.timers i).target.toNat) (n : Nat) :
    irqCount (s.platform.irqTmr0 + timerIndex i) (executed s n).trace =
      irqCount (s.platform.irqTmr0 + timerIndex i) s.trace +
        if (Timers.get s.timers i).target.toNat ≤ (Timers.get s.timers i).counter.toNat + n then 1
        else 0 := by
  rw [irqCount_of_trace (t := executed s n) rfl, irqCount_executeEvents,
    ticksReceived_of_sysclk h.counts h.sysclk, irqCount_requested]
  simp only [h.fires_iff hbelow]

/-- A sequence that never jumps past the target requests once per full target in the sum. -/
theorem Periodic.irqCount_execEach (ns : List Word) (h : Periodic i (Timers.get s.timers i))
    (hbelow : (Timers.get s.timers i).counter.toNat < (Timers.get s.timers i).target.toNat)
    (hwithin : withinTarget (Timers.get s.timers i).target.toNat
      (Timers.get s.timers i).counter.toNat ns) :
    ∃ t, execEach ns s = .next t ∧
      irqCount (s.platform.irqTmr0 + timerIndex i) t.trace =
        irqCount (s.platform.irqTmr0 + timerIndex i) s.trace +
          ((Timers.get s.timers i).counter.toNat + totalTicks ns) /
            (Timers.get s.timers i).target.toNat := by
  induction ns generalizing s with
  | nil =>
    refine ⟨s, rfl, ?_⟩
    rw [totalTicks_nil, Nat.add_zero, Nat.div_eq_of_lt hbelow, Nat.add_zero]
  | cons n ns ih =>
    obtain ⟨hn, hrest⟩ := hwithin
    have htarget := (Timers.get s.timers i).target.isLt
    have hn31 : n.getLsbD 31 = false := Nat.testBit_lt_two_pow (by omega)
    have hnext := ih (s := State.respond (executed s n.toNat) .ok 0 0)
    rw [State.respond_timers, h.executed_timer, addTicks_target, h.counter_addTicks,
      State.respond_trace, State.respond_platform, executed_platform, h.irqCount_executed hbelow,
      ite_le_eq_div h.target_pos (by omega)] at hnext
    obtain ⟨t, ht, hcount⟩ := hnext (h.after_addTicks _) (Nat.mod_lt _ h.target_pos) hrest
    refine ⟨t, (execEach_cons hn31 s).trans ht, ?_⟩
    rw [hcount, Nat.add_assoc, div_add_mod_add_div h.target_pos, totalTicks_cons, Nat.add_assoc]

end Periodic

/-- Settles O51: with a sum of `k` targets from a counter below the target, the quotient is `k`; a single
count crosses the target once. -/
theorem exactlyKInterrupts : Obligations.ExactlyKInterrupts := by
  intro i ns k s T hcounts hsysclk hresets hrepeats hpulses hpos hbelow
  have h : Periodic i (Timers.get s.timers i) := ⟨hcounts, hsysclk, hresets, hrepeats, hpulses, hpos⟩
  refine ⟨fun hwithin htotal => ?_, fun hzero hk hlt => ?_⟩
  · obtain ⟨t, ht, hcount⟩ := h.irqCount_execEach ns hbelow hwithin
    refine ⟨t, ht, ?_⟩
    rw [hcount, htotal, Nat.add_mul_div_right _ _ hpos, Nat.div_eq_of_lt hbelow, Nat.zero_add]
  · have hn : (BitVec.ofNat 32 (k * T.target.toNat)).toNat = k * T.target.toNat := by
      rw [BitVec.toNat_ofNat, Nat.mod_eq_of_lt (by omega)]
    have h31 : (BitVec.ofNat 32 (k * T.target.toNat)).getLsbD 31 = false :=
      Nat.testBit_lt_two_pow (by rw [hn]; exact hlt)
    refine ⟨_, exec_exec h31 s, ?_⟩
    have hreach : T.target.toNat ≤ T.counter.toNat + k * T.target.toNat :=
      (Nat.le_mul_of_pos_left _ hk).trans (Nat.le_add_left _ _)
    rw [State.respond_trace, hn, h.irqCount_executed hbelow, if_pos hreach]

/-! ### The divided clock of timer 2 -/

/-- The counter's remainder in one `AddTicks` (R244). -/
def reduced (t : Timer) (c : Nat) : Nat :=
  if t.mode.getLsbD 3 then (if t.target = 0 then 0 else c % t.target.toNat) else c % 0xFFFF

/-- Reducing in between changes no remainder. -/
theorem reduced_reduced_add (t : Timer) (a b : Nat) :
    reduced t (reduced t a + b) = reduced t (a + b) := by
  unfold reduced
  split_ifs
  · rfl
  · exact Nat.mod_add_mod ..
  · exact Nat.mod_add_mod ..

theorem reduced_addTicks (t : Timer) (n : Nat) : reduced (addTicks t n).1 = reduced t := by
  funext c
  unfold reduced
  rw [addTicks_mode_kept (by decide) (by decide) (by decide), addTicks_target]

theorem addTicks_counter_toNat (t : Timer) (n : Nat) :
    (addTicks t n).1.counter.toNat = reduced t (t.counter.toNat + n) :=
  wrapCounter_toNat t n

section Divided

variable {s : State} (hc : countsByTable s.timers.t2 = true)
  (he : externalByTable .t2 s.timers.t2 = true)

include hc he

theorem executed_carry_of_divided (n : Nat) : (executed s n).carry = (n + s.carry) % 8 :=
  if_pos (by rw [hc, he]; rfl)

theorem executed_t2_of_divided (n : Nat) :
    (executed s n).timers.t2 = (addTicks s.timers.t2 ((n + s.carry) / 8)).1 := by
  have hk : ticksReceived s n .t2 = some ((n + s.carry) / 8) := by
    simp only [ticksReceived, hc, he]
    rfl
  show advanced s.timers.t2 (ticksReceived s n .t2) = _
  rw [hk]
  rfl

end Divided

/-- A non-empty sequence of EXEC gives timer 2 the eighth of the sum, the carry keeping the rest (R242).
The first EXEC brings the carry below 8 and reduces the counter, so the sequence needs one. -/
theorem execEach_divided (n : Word) (ns : List Word) (s : State) (hc : countsByTable s.timers.t2 = true)
    (he : externalByTable .t2 s.timers.t2 = true) (hn : ∀ m ∈ n :: ns, m.getLsbD 31 = false) :
    ∃ t, execEach (n :: ns) s = .next t ∧
      t.carry = (s.carry + totalTicks (n :: ns)) % 8 ∧
      t.timers.t2.counter.toNat =
        reduced s.timers.t2 (s.timers.t2.counter.toNat + (s.carry + totalTicks (n :: ns)) / 8) := by
  induction ns generalizing n s with
  | nil =>
    refine ⟨_, execEach_cons (hn n List.mem_cons_self) s, ?_, ?_⟩
    · rw [State.respond_carry, executed_carry_of_divided hc he, totalTicks_cons, totalTicks_nil,
        Nat.add_zero, Nat.add_comm]
    · rw [State.respond_timers, executed_t2_of_divided hc he, addTicks_counter_toNat, totalTicks_cons,
        totalTicks_nil, Nat.add_zero, Nat.add_comm n.toNat]
  | cons m ns ih =>
    have hnext := ih m (State.respond (executed s n.toNat) .ok 0 0)
    rw [State.respond_timers, State.respond_carry, executed_t2_of_divided hc he,
      executed_carry_of_divided hc he, countsByTable_addTicks, externalByTable_addTicks,
      reduced_addTicks, addTicks_counter_toNat, reduced_reduced_add] at hnext
    obtain ⟨t, ht, hcarry, hcounter⟩ := hnext hc he fun k hk => hn k (List.mem_cons_of_mem n hk)
    refine ⟨t, (execEach_cons (hn n List.mem_cons_self) s).trans ht, ?_, ?_⟩
    · rw [hcarry, totalTicks_cons n, Nat.mod_add_mod, Nat.add_comm n.toNat, Nat.add_assoc]
    · rw [hcounter, Nat.add_assoc, div_add_mod_add_div (by decide), totalTicks_cons n,
        Nat.add_comm n.toNat, Nat.add_assoc s.carry]

/-- Settles O52: the statement adds the empty sequence, of which it asks completion alone. -/
theorem dividedClockLosesNoTicks : Obligations.DividedClockLosesNoTicks := by
  intro ns s hc he hns
  cases ns with
  | nil => exact ⟨s, rfl, fun h => absurd rfl h⟩
  | cons n ns =>
    obtain ⟨t, ht, hcarry, hcounter⟩ := execEach_divided n ns s hc he hns
    exact ⟨t, ht, fun _ => ⟨hcarry, hcounter⟩⟩

end Sys2Proof.Machine

namespace Sys2Proof.Machine

/-! ### The host's sideband operations

One equation per outcome of PATCH, EXPROM, SAVE and LOAD (`44_host_ops.md`), and the well-formed snapshot
of R282 as a list of conditions. -/

/-- PATCH of a word-aligned BIOS address rewrites the word there (R274). -/
theorem exec_patch_bios {a : Word} (value mask : Word) (s : State)
    (h : 0x1FC00000 ≤ physAddr a ∧ physAddr a < 0x1FC80000 ∧ physAddr a % 4 = 0) :
    exec (.patch a value mask) s =
      .next (State.done { s with bios := patchWord s.bios (physAddr a - 0x1FC00000) value mask }) :=
  if_neg (by omega)

/-- PATCH of any other address is refused (R275). -/
theorem exec_patch_refused {a : Word} (value mask : Word) (s : State)
    (h : ¬(0x1FC00000 ≤ physAddr a ∧ physAddr a < 0x1FC80000 ∧ physAddr a % 4 = 0)) :
    exec (.patch a value mask) s = .next (State.refuse s .badPatchAddress) :=
  if_pos (by omega)

/-- Settles O55: the address decides between the two outcomes, and the store is `patchWord`'s. -/
theorem patchRewritesOneWord : Obligations.PatchRewritesOneWord := by
  intro a value mask s
  dsimp only
  rw [← physAddr_eq_mod]
  refine ⟨fun hbios hwf => ?_, exec_patch_refused value mask s⟩
  exact ⟨_, exec_patch_bios value mask s hbios, storedInto_patchWord hwf _ value mask⟩

/-- A payload of the announced length is the ROM, without a free byte. -/
theorem romBytes_of_length_eq (n k : Nat) (bs : List Byte) (h : bs.length = n) :
    romBytes n k bs = bs := by
  induction bs generalizing n k with
  | nil => subst h; rfl
  | cons b bs ih => subst h; exact congrArg (b :: ·) (ih _ _ rfl)

/-- EXPROM of a length that is no reserved value (R277). -/
theorem exec_exprom {length : Word} (h : length.toNat ≤ 0x800000) (s : State) :
    exec (.exprom length) s =
      .next (State.done { s with exp1Rom := romBytes length.toNat 0 s.payload.bytes }) :=
  if_neg (Nat.not_lt.mpr h)

/-- Settles O56: the ROM is `romBytes` of the payload. -/
theorem expromReplacesTheRom : Obligations.ExpromReplacesTheRom := by
  intro length s h
  exact ⟨_, exec_exprom h s, romBytes_length _ _ _, romBytes_of_length_eq _ _ _⟩

theorem exec_save (s : State) :
    exec .save s = .next (State.done { s with saved := some (State.snapshot s) }) := rfl

theorem exec_load_of_none {s : State} (h : s.payload.snapshot = none) :
    exec .load s = .next (State.refuse s .stateMismatch) := by
  show execLoad s = _
  rw [execLoad, h]

theorem exec_load_of_some {s : State} {n : Snapshot} (h : s.payload.snapshot = some n) :
    exec .load s = if Snapshot.wellFormed n then .next (State.done (State.restore s n))
      else .next (State.refuse s .stateMismatch) := by
  show execLoad s = _
  rw [execLoad, h]

/-- The conditions of R282 in one list, the three timers as one. -/
theorem Snapshot.wellFormed_iff (n : Snapshot) :
    Snapshot.wellFormed n = true ↔
      n.ram.length = 0x200000 ∧ n.bios.length = 0x80000 ∧ n.scratch.length = 0x400 ∧
      Memory.ok n.ram.cells 0x200000 = true ∧ Memory.ok n.bios.cells 0x80000 = true ∧
      Memory.ok n.scratch.cells 0x400 = true ∧
      (∀ i, (Timers.get n.timers i).mode.toNat < 0x2000) ∧ n.carry ≤ 7 := by
  simp only [Snapshot.wellFormed, Image.exactly, Bool.and_eq_true, decide_eq_true_eq]
  constructor
  · rintro ⟨⟨⟨⟨⟨⟨⟨hramLen, hram⟩, hbiosLen, hbios⟩, hscratchLen, hscratch⟩, h0⟩, h1⟩, h2⟩, hcarry⟩
    refine ⟨hramLen, hbiosLen, hscratchLen, hram, hbios, hscratch, fun i => ?_, hcarry⟩
    cases i <;> assumption
  · rintro ⟨hramLen, hbiosLen, hscratchLen, hram, hbios, hscratch, hmodes, hcarry⟩
    exact ⟨⟨⟨⟨⟨⟨⟨hramLen, hram⟩, hbiosLen, hbios⟩, hscratchLen, hscratch⟩, hmodes .t0⟩, hmodes .t1⟩,
      hmodes .t2⟩, hcarry⟩

/-- Settles O57: `exec_save`, and LOAD by whether a snapshot stands beside it and is well formed. -/
theorem saveAndLoad : Obligations.SaveAndLoad := by
  intro s
  refine ⟨exec_save s, exec_load_of_none, fun n hn => ?_⟩
  dsimp only
  rw [← Snapshot.wellFormed_iff, exec_load_of_some hn]
  exact ⟨fun hgood => if_pos hgood, fun hbad => if_neg hbad⟩

/-- The invariants of R50 are what R282 asks of a snapshot. -/
theorem wellFormed_snapshot_of_legal {s : State} (h : State.legal s = true) :
    Snapshot.wellFormed (State.snapshot s) = true := by
  obtain ⟨hram, hscratch, hbios, _, htimers, hcarry, _⟩ := (State.legal_iff s).mp h
  exact (Snapshot.wellFormed_iff _).mpr
    ⟨rfl, rfl, rfl, hram, hbios, hscratch, fun i => of_decide_eq_true (htimers i), hcarry⟩

/-- A restored snapshot of `s` agrees with `s` in every component it names (R281, R283). -/
theorem sameSnapshot_restore_snapshot (u s : State) :
    SameSnapshot (State.done (State.restore u (State.snapshot s))) s :=
  ⟨rfl, rfl, rfl, rfl, rfl, rfl, rfl, rfl, rfl, rfl, rfl, rfl, rfl, rfl⟩

/-- Settles O58: the snapshot of a legal state is well formed, so LOAD restores it. -/
theorem saveLoadRoundTrip : Obligations.SaveLoadRoundTrip := by
  intro s hlegal
  refine ⟨_, State.snapshot s, exec_save s, rfl, fun u hu => ?_⟩
  have hload : exec .load u = .next (State.done (State.restore u (State.snapshot s))) := by
    rw [exec_load_of_some hu, if_pos (wellFormed_snapshot_of_legal hlegal)]
  exact ⟨_, hload, rfl, sameSnapshot_restore_snapshot u s, rfl, rfl⟩

end Sys2Proof.Machine

namespace Sys2Proof.Machine

/-! ### What a response says of the state

`Responded` lists the three kinds of answer. A refusal and an invalid access are made of the old state;
a completed operation says so in its status, whatever it changed. -/

/-- `Responded s t`: the answer `t` to an operation performed in `s`. -/
inductive Responded (s : State) : State → Prop
  | completed {t : State} (h : t.response.status = .ok) : Responded s t
  | refused (r : RefuseReason) : Responded s (State.refuse s r)
  | invalid (x : Access) : Responded s (State.invalid s x)

/-- The operation's outcome is an answer. -/
def Responds (s : State) (o : Result) : Prop :=
  ∃ t, o = .next t ∧ Responded s t

section Responses

variable {s t : State}

/-- A refusal is the old state with the refusal as response (R295). -/
theorem Responded.eq_refusedWith {r : RefuseReason} (h : Responded s t)
    (hr : t.response.status = .refused r) : t = refusedWith r s := by
  cases h with
  | completed hok => cases hok.symm.trans hr
  | refused r' =>
    cases hr
    rfl
  | invalid x => cases hr

/-- An invalid access is the old state but for the response, at the cost of one tick (R291). -/
theorem Responded.eq_of_invalid (h : Responded s t) (hi : t.response.status = .invalid) :
    t = { s with response := t.response } ∧ t.response.ticks = 1 := by
  cases h with
  | completed hok => cases hok.symm.trans hi
  | refused r => cases hi
  | invalid x => exact ⟨rfl, rfl⟩

theorem responds_refuse (r : RefuseReason) : Responds s (.next (State.refuse s r)) :=
  ⟨_, rfl, .refused r⟩

theorem responds_done (u : State) : Responds s (.next (State.done u)) :=
  ⟨_, rfl, .completed rfl⟩

/-- Both outcomes of a check are answers. -/
theorem responds_ite {c : Prop} [Decidable c] {o o' : Result} (h : Responds s o)
    (h' : Responds s o') : Responds s (if c then o else o') := by
  split
  · exact h
  · exact h'

/-! #### Bus requests -/

variable {x : Access}

/-- The guard refuses on the old state, so a guarded request answers if its target does (R302). -/
theorem responded_guardRequest {ad : Bool} {pa : Nat} {f : State → State}
    (h : Responded s (f s)) : Responded s (guardRequest ad pa x f s) := by
  rcases guardRequest_cases ad pa x f s with ⟨_, e⟩ | ⟨_, _, _, e⟩ | ⟨_, _, e⟩ <;> rw [e]
  · exact .refused _
  · exact .refused _
  · exact h

/-- CDROM refuses every width but a byte (R202, R203). -/
theorem responded_serveCdrom (off : Nat) : Responded s (serveCdrom off x s) := by
  obtain ⟨dir, size, value, pend⟩ := x
  cases size with
  | byte => cases dir <;> exact .completed rfl
  | half | word => exact .refused .assertWidth

/-- A narrow request to GPU or MDEC is an invalid access (R204, R205). -/
theorem responded_serveWordPort (c : Collab) (off : Nat) : Responded s (serveWordPort c off x s) := by
  obtain ⟨dir, size, value, pend⟩ := x
  cases size with
  | word => cases dir <;> exact .completed rfl
  | half | byte => exact .invalid _

/-- A byte request to the SPU is an invalid access (R207). -/
theorem responded_serveSpu (off : Nat) : Responded s (serveSpu off x s) := by
  obtain ⟨dir, size, value, pend⟩ := x
  cases size with
  | byte => exact .invalid _
  | half | word => cases dir <;> exact .completed rfl

/-- Only CDROM, GPU, MDEC and SPU can answer an aligned request with anything but `Ok`. -/
theorem responded_serveRegion (r : Region) (off : Nat) : Responded s (serveRegion r off x s) := by
  cases r with
  | cdrom => exact responded_serveCdrom off
  | gpu | mdec => exact responded_serveWordPort _ off
  | spu => exact responded_serveSpu off
  | timers => exact .completed (serveTimerPort_response _ _ _ _ _).left
  | exp1 | sio | bios => exact .completed rfl
  | ram | scratchpad | exp2 | memctrl | pad | memctrl2 | intc | dma =>
    obtain ⟨dir, size, value, pend⟩ := x
    cases dir <;> exact .completed rfl

/-- A bus packet is guarded, then served by its region or an invalid access (R120, R155). -/
theorem responds_request (a : Word) : Responds s (.next (request a x s)) := by
  refine ⟨_, rfl, ?_⟩
  unfold request
  split
  · exact responded_guardRequest (responded_serveRegion _ _)
  · exact responded_guardRequest (.invalid x)

/-- An address row answers as the region its address decodes to. -/
theorem ServesAddress.responds {a : Word} {i : Instr} (h : ServesAddress a x i) :
    Responds s (exec i s) := by
  obtain ⟨r, off, _, hserves⟩ := h
  exact ⟨_, hserves s, responded_guardRequest (responded_serveRegion r off)⟩

theorem responds_regionRow {a : Word} {i : Instr} (h : decode (addressForm .region a x) = .ok i) :
    Responds s (exec i s) :=
  ServesAddress.responds (decodeRegion_serves ((decode_regionForm a x).symm.trans h))

theorem responds_portRow {a : Word} {i : Instr} (h : decode (addressForm .port a x) = .ok i) :
    Responds s (exec i s) :=
  ServesAddress.responds (decodePort_serves ((decode_portForm a x).symm.trans h))

/-! #### Sideband operations -/

theorem responds_reset : Responds s (exec .reset s) :=
  responds_ite ⟨_, rfl, .completed rfl⟩ (responds_refuse .biosLoadFailed)

theorem responds_exec (n : Word) : Responds s (exec (.exec n) s) :=
  responds_ite (responds_refuse .reservedOp) (responds_done _)

theorem responds_gate (k l : Word) : Responds s (exec (.gate k l) s) := by
  show Responds s (execGate k l s)
  unfold execGate
  split
  · exact responds_refuse .reservedOp
  · exact responds_done _

theorem responds_xclk (k n : Word) : Responds s (exec (.xclk k n) s) := by
  show Responds s (execXclk k n s)
  unfold execXclk
  split
  · exact responds_refuse .reservedOp
  · exact responds_refuse .reservedOp
  · exact responds_ite (responds_refuse .reservedOp) (responds_ite (responds_done _) (responds_done s))

theorem responds_patch (a v m : Word) : Responds s (exec (.patch a v m) s) :=
  responds_ite (responds_refuse .badPatchAddress) (responds_done _)

theorem responds_exprom (n : Word) : Responds s (exec (.exprom n) s) :=
  responds_ite (responds_refuse .reservedOp) (responds_done _)

theorem responds_load : Responds s (exec .load s) := by
  cases h : s.payload.snapshot with
  | none =>
    rw [exec_load_of_none h]
    exact responds_refuse .stateMismatch
  | some n =>
    rw [exec_load_of_some h]
    exact responds_ite (responds_done _) (responds_refuse .stateMismatch)

end Responses

/-- Every operation responds: packets case by case, an address row because its encoding is the carrier of
an address that decodes to it. -/
theorem exec_responds (i : Instr) (s : State) : Responds s (exec i s) := by
  have hrow := decodeEncodeRoundTrip i
  cases i with
  | rb a | rh a | rw a | wb a | wh a | ww a => exact responds_request a
  | reserved3 | reserved7 => exact responds_refuse .reservedOp
  | reset => exact responds_reset
  | exec n => exact responds_exec n
  | gate k l => exact responds_gate k l
  | xclk k n => exact responds_xclk k n
  | patch a v m => exact responds_patch a v m
  | exprom n => exact responds_exprom n
  | save => exact responds_done _
  | load => exact responds_load
  | regionRam | regionExp1 | regionScratchpad | regionMemctrlA | regionMemctrlB | regionPad | regionSio
    | regionMemctrl2 | regionIntc | regionDma | regionTimersA | regionTimersB | regionCdrom | regionGpu
    | regionMdec | regionSpuA | regionSpuB | regionExp2 | regionBios => exact responds_regionRow hrow
  | portMemctrl0 | portMemctrl1 | portMemctrl2 | portMemctrl3 | portMemctrl4 | portMemctrl5
    | portMemctrl6 | portMemctrl7 | portMemctrl8 | portRamSizeReg | portSioStat | portT0Counter
    | portT0Mode | portT0Target | portT0None | portT1Counter | portT1Mode | portT1Target | portT1None
    | portT2Counter | portT2Mode | portT2Target | portT2None | portExp1Ar | portExp2TtyStatus
    | portExp2TtyData | portExp2Post => exact responds_portRow hrow

/-- Settles O11: every operation responds, and a response that is a refusal or an invalid access is made of
the old state. -/
theorem everyOperationAnswers : Obligations.EveryOperationAnswers := by
  intro i s
  obtain ⟨t, hexec, ht⟩ := exec_responds i s
  exact ⟨t, hexec, fun _ hr => ht.eq_refusedWith hr, ht.eq_of_invalid⟩

end Sys2Proof.Machine
